-- ==== Sys2Proof/Word.lean ====
section
/-! DEFINITION. The word types of the block: port bytes, operation words and drive status codes. -/

namespace Sys2Proof

/-- A port register byte: 8 bits (00_scope.md R7), unsigned, bit 0 least significant (R10). -/
abbrev Byte := BitVec 8

/-- A drive status field: the 2-bit activity/error code (R7, R34). -/
abbrev StatusCode := BitVec 2

/-- An operation word: 16 bits (30_encoding.md R71). -/
abbrev OpWord := BitVec 16

end Sys2Proof
end

