-- ==== Sys2Proof/Syntax.lean ====
section
/-! DEFINITION. The operations of the block: one constructor per row of spec/opcode_table.json (30_encoding.md R70). -/

namespace Sys2Proof

/-- The ten operations (R70). `d` is the byte operand, `b` the boolean operand (R73); IRQ's side input `clk` is no part of the
word (R73) and stands in State. -/
inductive Instr where
  /-- WRA: port-A write (R110). -/
  | wra (d : Byte)
  /-- RSA: port-A state restore (R111). -/
  | rsa (d : Byte)
  /-- WRB: port-B write (R112). -/
  | wrb (d : Byte)
  /-- RSB: port-B state restore (R113). -/
  | rsb (d : Byte)
  /-- RDA: port-A read (R130). -/
  | rda
  /-- RDB: port-B read (R131). -/
  | rdb
  /-- RST: reset (R170). -/
  | rst
  /-- ATN: ATN edge transition, `b` the new ATN state (R100, R101). -/
  | atn (b : Bool)
  /-- IRQ: interrupt set, `b` true to assert (R140). -/
  | irq (b : Bool)
  /-- IRR: interrupt restore, `b` the persisted level (R141). -/
  | irr (b : Bool)
  deriving DecidableEq, Repr

end Sys2Proof
end

