-- ==== Sys2Proof/Decode.lean ====
section
/-! DEFINITION. Decoding of operation words (30_encoding.md R71 to R75), total over all 65536 words, and the encoder. -/

namespace Sys2Proof

/-- Why a word has no meaning. -/
inductive DecodeError where
  /-- Op code 0x0 or 0xB to 0xF (R74). -/
  | reservedOp
  /-- A defined op code with a 1 outside the row's pattern fields (R75). -/
  | nonzeroReservedField
  deriving DecidableEq, Repr

/-- The field `op`, bits 15:12 (R71). -/
def fieldOp (w : OpWord) : BitVec 4 := w.extractLsb' 12 4

/-- The operand `b = (w[8] == 1)` (R73). -/
def fieldB (w : OpWord) : Bool := w.getLsbD 8

/-- The operand `d = w[7:0]`, unchanged (R73). -/
def fieldD (w : OpWord) : Byte := w.extractLsb' 0 8

/-- A word selects a row iff `(w & mask) == match` (R72); with the row's op code and not the row's match it is refused (R75). -/
def selectRow (w mask pattern : OpWord) (i : Instr) : Except DecodeError Instr :=
  if w &&& mask = pattern then .ok i else .error .nonzeroReservedField

/-- The rows of R72, by op code. -/
def decode (w : OpWord) : Except DecodeError Instr :=
  match (fieldOp w).toNat with
  | 0x1 => selectRow w 0xFF00 0x1000 (.wra (fieldD w))
  | 0x2 => selectRow w 0xFF00 0x2000 (.rsa (fieldD w))
  | 0x3 => selectRow w 0xFF00 0x3000 (.wrb (fieldD w))
  | 0x4 => selectRow w 0xFF00 0x4000 (.rsb (fieldD w))
  | 0x5 => selectRow w 0xFFFF 0x5000 .rda
  | 0x6 => selectRow w 0xFFFF 0x6000 .rdb
  | 0x7 => selectRow w 0xFFFF 0x7000 .rst
  | 0x8 => selectRow w 0xFEFF 0x8000 (.atn (fieldB w))
  | 0x9 => selectRow w 0xFEFF 0x9000 (.irq (fieldB w))
  | 0xA => selectRow w 0xFEFF 0xA000 (.irr (fieldB w))
  | _ => .error .reservedOp

/-- A pattern of R72 with the byte field `dddddddd`, from its upper byte. -/
def encodeByte (upper : Byte) (d : Byte) : OpWord := upper ++ d

/-- A pattern of R72 with the boolean field `b`, from its op code. -/
def encodeBool (op : BitVec 4) (b : Bool) : OpWord := op ++ 0#3 ++ BitVec.ofBool b ++ 0#8

/-- The word of an operation: the patterns of R72, bit 15 first. -/
def encode : Instr → OpWord
  | .wra d => encodeByte 0b00010000 d
  | .rsa d => encodeByte 0b00100000 d
  | .wrb d => encodeByte 0b00110000 d
  | .rsb d => encodeByte 0b01000000 d
  | .rda => 0b0101000000000000
  | .rdb => 0b0110000000000000
  | .rst => 0b0111000000000000
  | .atn b => encodeBool 0b1000 b
  | .irq b => encodeBool 0b1001 b
  | .irr b => encodeBool 0b1010 b

/-- The instruction the decoder reads from an opcode-table word of `nbits` bits. Every operation word is 16 bits long (R71), so
a value that does not fit 16 bits is no operation word. -/
def decodeTableWord (nbits w : Nat) : Option Instr :=
  if w % 2 ^ nbits < 2 ^ 16 then
    match decode (BitVec.ofNat 16 (w % 2 ^ nbits)) with
    | .ok i => some i
    | .error _ => none
  else none

end Sys2Proof
end

