-- ==== Sys2Proof/Config.lean ====
section
/-! DEFINITION. The configuration record of an adapter (00_scope.md R8), what construction is given (70_reset_and_hazards.md
R173), and the opaque constants for what the spec leaves open. An opaque constant has no body, so nothing can be proved of its
value: what is proved holds for every value. -/

namespace Sys2Proof

/-- `unitNumber`, 0 or 1 (R7): which drive of a dual-mechanism unit the adapter serves. -/
inductive UnitNo where
  | u0
  | u1
  deriving DecidableEq, Repr, Inhabited

/-- The number the source writes for a unit. -/
def UnitNo.toNat : UnitNo → Nat
  | .u0 => 0
  | .u1 => 1

/-- The five bus lines (R1, R28; 90_conflicts.md C5). -/
inductive BusLine where
  | atn
  | dav
  | eoi
  | nrfd
  | ndac
  deriving DecidableEq, Repr

/-- `S`, the "opaque handle registered once at construction" (R22), compared only for identity (93 U1). -/
structure SourceId where
  token : Nat
  deriving DecidableEq, Repr, Inhabited

/-- `P_SOURCE_NAME`, the name given to `registerSource` (92 D27). -/
structure SourceName where
  token : Nat
  deriving DecidableEq, Repr, Inhabited

/-- `P_IRQ_KIND`, the `kind` argument of assert and deassert (92 D14). -/
structure IrqKind where
  token : Nat
  deriving DecidableEq, Repr, Inhabited

/-- The identity of a party that is no adapter of this drive context: a participant on the bus, or an adapter or chip that receives a
sibling request. -/
structure AdapterId where
  token : Nat
  deriving DecidableEq, Repr, Inhabited

/-- An agent that contributes to a bus line (10_state.md R28). The adapters of this drive context are told apart by `P_UNIT`:
"Identities are `P_UNIT` values 0 and 1" (60_exceptions.md R159). Any other participant on the bus has an identity of its own.
`P_SIBLING` is such an identity too: which adapter or chip receives a sibling request is open (41_atn_edge.md R104; 92 D28), so it
may be an adapter of this drive context, the sender's number included, or another party (log 13). -/
inductive BusAgent where
  | unit (u : UnitNo)
  | other (id : AdapterId)
  deriving DecidableEq, Repr, Inhabited

/-- The Chip Core's register view: output latch and direction register of ports A and B (10_state.md R29). -/
structure CoreRegs where
  ORA : Byte
  DDRA : Byte
  ORB : Byte
  DDRB : Byte
  deriving DecidableEq, Repr, Inhabited

/-- The block's contributions to four lines: `nrfd_o`, `ndac_o`, `eoi_o`, `dav_o` (R26). true = asserted (92 D3). -/
structure Outputs where
  nrfd : Bool
  ndac : Bool
  eoi : Bool
  dav : Bool
  deriving DecidableEq, Repr, Inhabited

/-- The Bus Line Set's current values `atn_i`, `dav_i`, `eoi_i`, `nrfd_i`, `ndac_i` (R28). true = asserted (92 D3). -/
structure LineValues where
  atn : Bool
  dav : Bool
  eoi : Bool
  nrfd : Bool
  ndac : Bool
  deriving DecidableEq, Repr, Inhabited

/-- The drive status fields `status[0]` and `status[1]`: bit 0 activity, bit 1 error. "`status[1]` exists only when `P_SLOT1`"
(R34): `none` where it does not exist. -/
structure DriveStatus where
  slot0 : StatusCode
  slot1 : Option StatusCode
  deriving DecidableEq, Repr, Inhabited

/-- What the Interrupt Controller holds for source S: `ic_level[S]` and `ic_clk[S]` (R35). -/
structure IcState where
  level : Bool
  clk : Nat
  deriving DecidableEq, Repr, Inhabited

/-- A contribution to a line: the boolean `agent` last passed to that line's setter (R26, R28). -/
structure Contribution where
  agent : BusAgent
  line : BusLine
  value : Bool
  deriving DecidableEq, Repr

/-- The edge kinds of the ATN edge detector (41_atn_edge.md R103). -/
inductive EdgeKind where
  | fall
  | rise
  deriving DecidableEq, Repr

/-- An `IRQ b @clk` that the Chip Core calls (60_exceptions.md R152). -/
structure IrqCall where
  level : Bool
  clk : Nat
  deriving DecidableEq, Repr

/-- `P_CORE_EDGE`: "a relation from (Chip Core state, edge kind) to (Chip Core state, optional IRQ operations)" (R8, 92 D15). It
is open: a claim takes it as an argument and assumes a named property of it where it needs one (93 U3). `Core` is the Chip Core's
state, of which the spec says nothing. A relation is no plain data, so it stands beside the record (log 12). -/
structure CoreEdge (Core : Type) where
  rel : Core → EdgeKind → Core → List IrqCall → Prop

/-- `P_BUS_COMBINE` (92 D4). In the SOLO test configuration a line's value is the adapter's own contribution; otherwise it is
the open function `Config.busCombine` of all contributions. DESIGN CHOICE (log 6): which of the two is data. -/
inductive BusCombine where
  | solo
  | shared
  deriving DecidableEq, Repr

/-- The parameters of an adapter's configuration record but its unit number and the bus it is on: in a drive context these two
follow from the place of the adapter (60_exceptions.md R159). -/
structure AdapterSettings where
  legacy : Bool
  dual : Bool
  slot1 : Bool
  sourceName : SourceName
  source : SourceId
  irqKind : IrqKind
  sibling : BusAgent
  coreReset : CoreRegs
  deriving DecidableEq, Repr

/-- The configuration record of an adapter (R8, R22): fixed at construction, written by no operation. `driveRef` is drive slot
`unit` (R22, 92 D10). That it stands in State as data is the model's DESIGN CHOICE (log 21). `P_CORE_EDGE` is `CoreEdge`. -/
structure AdapterConfig extends AdapterSettings where
  unit : UnitNo
  combine : BusCombine
  deriving DecidableEq, Repr

/-- The agent as which the adapter contributes to the bus lines: its `P_UNIT` (60_exceptions.md R159). -/
def AdapterConfig.self (c : AdapterConfig) : BusAgent := .unit c.unit

/-- The configuration as it is offered to construction, before the check of R9: `unitNumber` may still be any number, and the
source id is not registered yet (R173). -/
structure RawConfig where
  unit : Nat
  legacy : Bool
  dual : Bool
  slot1 : Bool
  sourceName : SourceName
  irqKind : IrqKind
  sibling : BusAgent
  coreReset : CoreRegs
  combine : BusCombine
  deriving DecidableEq, Repr

/-- What holds at construction and is not the configuration: `P_ATN_INIT`, `P_OUT_INIT`, `P_STATUS_INIT` for each slot (92 D7),
and what the collaborators hold then, of which the spec gives no value (log 18): the ATN line where the environment drives it,
the other adapters' contributions, the register view, the IC state. -/
structure InitValues where
  atnActive : Bool
  outs : Outputs
  status0 : StatusCode
  status1 : StatusCode
  atn : Bool
  others : List Contribution
  regs : CoreRegs
  ic : IcState
  deriving DecidableEq, Repr, Inhabited

namespace Config

/-- `P_BUS_COMBINE(line, all contributions)`: open (92 D4, log 5). A contribution is given with the agent that makes it. -/
opaque busCombine : BusLine → List (BusAgent × Bool) → Bool

/-- The Interrupt Controller's answer to `registerSource(name)` (45_interrupt_routing.md R142). -/
opaque registerSource : SourceName → SourceId

/-- `P_UNIT` of the adapter that `State.reset` stands for (log 21). -/
opaque unit : UnitNo

/-- `P_LEGACY` of that adapter (92 D26). -/
opaque legacy : Bool

/-- `P_DUAL` of that adapter. -/
opaque dual : Bool

/-- Whether a slot 1 exists beside what R9 forces; see `slot1`. -/
opaque extraSlot : Bool

/-- `P_SLOT1` of that adapter: it holds whenever `P_UNIT = 0 ∧ P_DUAL`, since an ill-formed configuration has no run (R9). -/
def slot1 : Bool := extraSlot || (unit == .u0 && dual)

/-- `P_SOURCE_NAME` of that adapter (92 D27). -/
opaque sourceName : SourceName

/-- `P_IRQ_KIND` of that adapter (92 D14). -/
opaque irqKind : IrqKind

/-- `P_SIBLING` of that adapter (92 D28): nothing says whether it is an adapter of the same drive context (log 13). -/
opaque sibling : BusAgent

/-- `P_CORE_RESET` of that adapter (92 D5). -/
opaque coreReset : CoreRegs

/-- What that adapter and its collaborators hold at construction (92 D7, log 8, log 18). -/
opaque initValues : InitValues

/-- The configuration offered to construction for the adapter that `State.reset` stands for. -/
def raw : RawConfig where
  unit := unit.toNat
  legacy := legacy
  dual := dual
  slot1 := slot1
  sourceName := sourceName
  irqKind := irqKind
  sibling := sibling
  coreReset := coreReset
  combine := .shared

/-- Its configuration record once constructed. -/
def record : AdapterConfig where
  unit := unit
  legacy := legacy
  dual := dual
  slot1 := slot1
  sourceName := sourceName
  source := registerSource sourceName
  irqKind := irqKind
  sibling := sibling
  coreReset := coreReset
  combine := .shared

end Config

end Sys2Proof
end

