-- ==== Sys2Proof/Machine/Bus.lean ====
section
/-! DEFINITION. The contributions to the bus lines and how a line's value is formed from all of them (10_state.md R28, 92 D4).
A list of contributions has one canonical form: one entry for each agent and line, in the order of their keys. So the list of all
contributions to a line is the same from whichever adapter it is seen (60_exceptions.md R159, log 5). -/

namespace Sys2Proof.Machine

/-- Give one line a value. -/
def setLineValue (lines : LineValues) (line : BusLine) (v : Bool) : LineValues :=
  match line with
  | .atn => { lines with atn := v }
  | .dav => { lines with dav := v }
  | .eoi => { lines with eoi := v }
  | .nrfd => { lines with nrfd := v }
  | .ndac => { lines with ndac := v }

/-- An adapter's contribution to a line (R26); none to ATN (R27). -/
def outputTo (outs : Outputs) : BusLine → Option Bool
  | .atn => none
  | .dav => some outs.dav
  | .eoi => some outs.eoi
  | .nrfd => some outs.nrfd
  | .ndac => some outs.ndac

/-- A number for each line, for the order of the list only. -/
def lineIndex : BusLine → Nat
  | .atn => 0
  | .dav => 1
  | .eoi => 2
  | .nrfd => 3
  | .ndac => 4

/-- A number for each agent, for the order of the list only. -/
def agentIndex : BusAgent → Nat
  | .unit .u0 => 0
  | .unit .u1 => 1
  | .other id => 2 + id.token

/-- The place of an agent's contribution to a line in the canonical order. -/
def contributionKey (agent : BusAgent) (line : BusLine) : Nat := 5 * agentIndex agent + lineIndex line

/-- The key of an entry. -/
def entryKey (c : Contribution) : Nat := contributionKey c.agent c.line

/-- Record that an agent last passed a value to a line's setter: its earlier contribution to that line is replaced. -/
def recordEntry (e : Contribution) : List Contribution → List Contribution
  | [] => [e]
  | c :: cs =>
    if entryKey e < entryKey c then e :: c :: cs
    else if entryKey e = entryKey c then e :: cs
    else c :: recordEntry e cs

/-- Record that `agent` last passed `value` to the setter of `line`. -/
def recordContribution (agent : BusAgent) (line : BusLine) (value : Bool) (cs : List Contribution) : List Contribution :=
  recordEntry ⟨agent, line, value⟩ cs

/-- The canonical form: keys strictly rising. -/
def contributionsOrdered : List Contribution → Bool
  | [] => true
  | c :: cs => cs.all (fun e => decide (entryKey c < entryKey e)) && contributionsOrdered cs

/-- No entry of the list is a contribution of `agent`. -/
def contributionsForeign (agent : BusAgent) (cs : List Contribution) : Bool := cs.all (fun c => c.agent != agent)

/-- Any list brought into the form that the contributions of the adapters other than `self` have. -/
def canonicalContributions (self : BusAgent) (cs : List Contribution) : List Contribution :=
  (cs.filter (fun c => c.agent != self)).foldr recordEntry []

/-- The contributions to `line`, each with its agent. -/
def contributionsTo (line : BusLine) (cs : List Contribution) : List (BusAgent × Bool) :=
  (cs.filter (fun c => c.line == line)).map (fun c => (c.agent, c.value))

/-- All contributions to `line` when the adapter `self` contributes `own` beside `others`. -/
def allContributions (self : BusAgent) (line : BusLine) (own : Bool) (others : List Contribution) : List (BusAgent × Bool) :=
  contributionsTo line (recordContribution self line own others)

/-- `line_i = P_BUS_COMBINE(line, all contributions)` for a line the adapter `self` contributes `own` to (R28). In SOLO it is the
own contribution (92 D4). -/
def lineValue (mode : BusCombine) (self : BusAgent) (line : BusLine) (own : Bool) (others : List Contribution) : Bool :=
  match mode with
  | .solo => own
  | .shared => Config.busCombine line (allContributions self line own others)

/-- `atn_i = P_BUS_COMBINE(ATN, all contributions)`: the adapter contributes nothing to ATN (R27). -/
def atnValue (others : List Contribution) : Bool :=
  Config.busCombine .atn (contributionsTo .atn others)

/-- The five lines formed from all contributions (R28). In SOLO the environment drives ATN (92 D4), to the value `atn`. -/
def formLines (mode : BusCombine) (self : BusAgent) (outs : Outputs) (others : List Contribution) (atn : Bool) : LineValues where
  atn :=
    match mode with
    | .solo => atn
    | .shared => atnValue others
  dav := lineValue mode self .dav outs.dav others
  eoi := lineValue mode self .eoi outs.eoi others
  nrfd := lineValue mode self .nrfd outs.nrfd others
  ndac := lineValue mode self .ndac outs.ndac others

/-- Record the four contributions of another adapter under its identity. -/
def recordOutputs (agent : BusAgent) (outs : Outputs) (cs : List Contribution) : List Contribution :=
  recordContribution agent .dav outs.dav (recordContribution agent .eoi outs.eoi
    (recordContribution agent .nrfd outs.nrfd (recordContribution agent .ndac outs.ndac cs)))

end Sys2Proof.Machine
end

