-- ==== Sys2Proof/Machine/Operands.lean ====
section
/-! DEFINITION. The byte computations of the block, all boolean or bitwise (00_scope.md R11): the handshake equations, the
status extraction, the synthesized read bytes and the merge under the direction mask. -/

namespace Sys2Proof.Machine

/-- `b[k]`, the bit of weight 2^k (R10). -/
def bit (k : Nat) (b : Byte) : Bool := b.getLsbD k

/-- `RFDO := (atnActive == p[0]) AND p[2]` (40_handshake.md R90). -/
def rfdo (atnActive : Bool) (p : Byte) : Bool := (atnActive == bit 0 p) && bit 2 p

/-- `NRFD := NOT RFDO` (R90). -/
def nrfdOf (atnActive : Bool) (p : Byte) : Bool := !rfdo atnActive p

/-- `DACO := (NOT p[1]) AND (p[0] OR (NOT atnActive))` (R90). -/
def daco (atnActive : Bool) (p : Byte) : Bool := !bit 1 p && (bit 0 p || !atnActive)

/-- `NDAC := NOT DACO` (R90). -/
def ndacOf (atnActive : Bool) (p : Byte) : Bool := !daco atnActive p

/-- `eoi_o <- NOT d[3]` (42_port_write.md R110). -/
def eoiOf (d : Byte) : Bool := !bit 3 d

/-- `dav_o <- NOT d[4]` (R110). -/
def davOf (d : Byte) : Bool := !bit 4 d

/-- `(d >> 4) & 0x3`: bit 4 is activity (status bit 0), bit 5 is error (status bit 1) (R112). -/
def primaryStatus (d : Byte) : StatusCode := ((d >>> 4) &&& 0x3#8).setWidth 2

/-- `(d[3] ? 1 : 0) | (d[5] ? 2 : 0)`: the second drive's status in a dual-mechanism unit (R114). -/
def secondaryStatus (d : Byte) : StatusCode :=
  (if bit 3 d then 1#2 else 0#2) ||| (if bit 5 d then 2#2 else 0#2)

/-- "both indicators active" (70_reset_and_hazards.md R170, 92 D8). -/
def bothIndicatorsActive : StatusCode := 0b11#2

/-- Write one status field. A write to the `status[1]` of an absent slot 1 (R34) finds no field and has no effect: DESIGN CHOICE
(log 9). -/
def setSlot (st : DriveStatus) (slot : UnitNo) (v : StatusCode) : DriveStatus :=
  match slot with
  | .u0 => { st with slot0 := v }
  | .u1 => { st with slot1 := st.slot1.map fun _ => v }

/-- Read one status field, if it exists. -/
def getSlot (st : DriveStatus) : UnitNo → Option StatusCode
  | .u0 => some st.slot0
  | .u1 => st.slot1

/-- The status fields of a drive context at construction: `P_STATUS_INIT` per slot, `status[1]` only with `P_SLOT1` (R34, R173). -/
def initialStatus (slot1 : Bool) (status0 status1 : StatusCode) : DriveStatus where
  slot0 := status0
  slot1 := if slot1 then some status1 else none

/-- `s[k] := 0`. -/
def clearBit (k : Nat) (s : Byte) : Byte := s &&& ~~~(1#8 <<< k)

/-- `if c: s[k] := 0`. -/
def clearBitIf (c : Bool) (k : Nat) (s : Byte) : Byte := if c then clearBit k s else s

/-- The synthesized byte of a port-A read (43_port_read.md R130). Bit 7 has the opposite sense from bits 6 and 5 (93 U4). -/
def synthPortA (lines : LineValues) : Byte :=
  clearBitIf lines.eoi 5 (clearBitIf lines.dav 6 (clearBitIf (!lines.atn) 7 0xFF#8))

/-- The synthesized byte of a port-B read (R131): NRFD, NDAC and the device address in the low three bits. -/
def synthPortB (unit : UnitNo) (lines : LineValues) : Byte :=
  clearBit 2 (clearBit 1 (clearBitIf (unit == .u0) 0 (clearBitIf lines.ndac 6 (clearBitIf lines.nrfd 7 0xFF#8))))

/-- `MERGE(s, latch, dir) = (s & ~dir) | (latch & dir)` (R132): a direction bit 1 is an output (10_state.md R33). -/
def merge (s latch dir : Byte) : Byte := (s &&& ~~~dir) ||| (latch &&& dir)

end Sys2Proof.Machine
end

