-- ==== Sys2Proof/WellFormed.lean ====
section
/-! DEFINITION. Well-formedness (00_scope.md R9). The terms of Instr carry operands of exactly the encoding's widths, so every
term of Instr is well formed (R150); what can be ill formed is a configuration, checked here at construction, and an operation
word, refused by Decode.lean. -/

namespace Sys2Proof

/-- The first check of R9: `P_UNIT ∈ {0,1}`. -/
def RawConfig.unitOk (c : RawConfig) : Bool := c.unit == 0 || c.unit == 1

/-- The second check of R9: `P_SLOT1` holds whenever `P_UNIT = 0 ∧ P_DUAL`. -/
def RawConfig.slotOk (c : RawConfig) : Bool := !(c.unit == 0 && c.dual) || c.slot1

/-- A configuration is well formed iff both checks pass (R9). -/
def RawConfig.wf (c : RawConfig) : Bool := c.unitOk && c.slotOk

/-- R9 on a constructed record, whose unit is 0 or 1 by its type. -/
def AdapterConfig.wf (c : AdapterConfig) : Bool := !(c.unit == .u0 && c.dual) || c.slot1

end Sys2Proof
end

