-- ==== Sys2Proof/Machine/State.lean ====
section
/-! DEFINITION. The state of the machine: everything 10_state.md gives it, as plain data, with the reasons to stop and the state
right after reset. The block has no memory, program counter, modes or saved state (R36, R37, R39; 60_exceptions.md R155, R156). -/

namespace Sys2Proof.Machine

/-- The two ports of the chip (R7). -/
inductive Port where
  | a
  | b
  deriving DecidableEq, Repr

/-- The collaborator calls that are the block's observable behaviour (00_scope.md section 5). There is no `setATN`: no
operation calls it (R27). -/
inductive Event where
  | setNRFD (v : Bool)
  | setNDAC (v : Bool)
  | setEOI (v : Bool)
  | setDAV (v : Bool)
  | signalEdge (e : EdgeKind)
  /-- The request to `P_SIBLING`, an adapter of this drive context or another party (41_atn_edge.md R104; log 13). -/
  | siblingRederive (receiver : BusAgent)
  | icAssert (source : SourceId) (kind : IrqKind) (clk : Nat)
  | icDeassert (source : SourceId) (kind : IrqKind)
  | icRestore (source : SourceId) (level : Bool)
  | status (slot : UnitNo) (v : StatusCode)
  | registerSource (name : SourceName)
  deriving DecidableEq, Repr

/-- What a collaborator does between operations (10_state.md R28, R30; 30_encoding.md R76; 70_reset_and_hazards.md R173). -/
inductive EnvStep where
  /-- `!ATNLINE b`: the environment drives `atn_i`. -/
  | atnLine (b : Bool)
  /-- `CoreSetDDR(port, v)`, written `!DDRA v` and `!DDRB v`. -/
  | setDDR (port : Port) (v : Byte)
  /-- `!BUS line b`: a line's value is set directly, "for non-SOLO tests". -/
  | forceLine (line : BusLine) (b : Bool)
  /-- Another adapter passes `b` to the setter of `line` (R28, R58). -/
  | contribute (agent : BusAgent) (line : BusLine) (b : Bool)
  /-- Another adapter of the drive context writes a status field (20_memory.md R60). -/
  | driveStatus (slot : UnitNo) (v : StatusCode)
  /-- The adapter is destroyed: "after it no operation is delivered" (R173). -/
  | teardown
  deriving DecidableEq, Repr

/-- One entry of the dispatch order: an operation word with the clock value at the time of the call (R73), or a collaborator's
step. -/
inductive Input where
  | op (word : OpWord) (clk : Nat)
  | env (e : EnvStep)
  deriving DecidableEq, Repr

/-- No operation raises an exception and the block has no fault state (60_exceptions.md R150, R151): there is no fault. -/
inductive Fault where
  deriving DecidableEq, Repr

/-- Why the model gives an input no meaning. -/
inductive Refusal where
  /-- An instruction without a meaning in `exec`; no arm raises it. Safe. -/
  | notModelled (mnemonic : String)
  /-- `refuse(reserved_op)`: raised by `step` on an op code 0x0 or 0xB to 0xF (30_encoding.md R74). Safe. -/
  | reservedOp
  /-- `refuse(nonzero_reserved_field)`: raised by `step` on a defined op code with a nonzero unused bit (R75). Safe. -/
  | nonzeroReservedField
  /-- Raised by `construct` on an ill-formed configuration (00_scope.md R9). Safe. -/
  | illFormedConfig
  deriving DecidableEq, Repr

/-- The state of the machine. The groups are those of 10_state.md; the last four fields are the model's own,
DESIGN CHOICE (log 1, 15, 16). -/
structure State where
  /-- The configuration, constant (R8, R22). -/
  cfg : AdapterConfig
  /-- The adapter's latch (R21). -/
  atnActive : Bool
  /-- The block's contributions (R26). -/
  outs : Outputs
  /-- The Bus Line Set's line values (R28). -/
  lines : LineValues
  /-- The other adapters' contributions, in the canonical form (R28, log 5). -/
  others : List Contribution
  /-- The Chip Core's register view (R29, R30). -/
  regs : CoreRegs
  /-- The drive status fields (R34). -/
  status : DriveStatus
  /-- The Interrupt Controller's view of source S (R35). -/
  ic : IcState
  /-- The side input `clk` of the operation being run (30_encoding.md R73). -/
  clk : Nat
  /-- The inputs still to come, in dispatch order (R36, R58, R59). -/
  inputs : List Input
  /-- The events emitted, oldest first. -/
  events : List Event
  /-- The bytes returned by reads, oldest first. -/
  returned : List Byte
  deriving DecidableEq, Repr

/-- The machine right after construction, the Chip Core's reset and RST (R171, R174), with no input waiting. What R171 leaves
unchanged keeps its construction value, an opaque parameter: DESIGN CHOICE (log 5, 8). -/
def State.reset : State where
  cfg := Config.record
  atnActive := false
  outs :=
    { nrfd := nrfdOf false Config.coreReset.ORA
      ndac := ndacOf false Config.coreReset.ORA
      eoi := false
      dav := false }
  lines :=
    formLines .shared (.unit Config.unit)
      { nrfd := nrfdOf false Config.coreReset.ORA
        ndac := ndacOf false Config.coreReset.ORA
        eoi := false
        dav := false }
      (canonicalContributions (.unit Config.unit) Config.initValues.others) Config.initValues.atn
  others := canonicalContributions (.unit Config.unit) Config.initValues.others
  regs := Config.coreReset
  status :=
    setSlot (initialStatus Config.slot1 Config.initValues.status0 Config.initValues.status1) Config.unit bothIndicatorsActive
  ic := Config.initValues.ic
  clk := 0
  inputs := []
  events := []
  returned := []

end Sys2Proof.Machine
end

