-- ==== Sys2Proof/Machine/Ops.lean ====
section
/-! DEFINITION. The named operations on the state: the Bus Line Set's setters, the Chip Core's register view, the drive status
fields, the Interrupt Controller's calls, and the handshake derivation that four operations share. The block takes no exception
and returns from none (60_exceptions.md R150, R155), so there is no such operation here. -/

namespace Sys2Proof.Machine

/-- A line's value as the Bus Line Set forms it when the adapter contributes `own` (R28). -/
def State.busValue (s : State) (line : BusLine) (own : Bool) : Bool :=
  lineValue s.cfg.combine s.cfg.self line own s.others

/-- The state with the model's own fields emptied: what two runs are compared on when only the spec's state counts. -/
def State.arch (s : State) : State :=
  { s with clk := 0, inputs := [], events := [], returned := [] }

/-- Add one event to the observable sequence. -/
def State.emit (e : Event) (s : State) : State :=
  { s with events := s.events ++ [e] }

/-- `return v`: hand a byte to the Chip Core (00_scope.md section 5). -/
def State.reply (v : Byte) (s : State) : State :=
  { s with returned := s.returned ++ [v] }

/-- `setNRFD(v)`: `nrfd_o <- v`, visible on the line at once (R26, R28, R58). -/
def State.setNRFD (v : Bool) (s : State) : State :=
  { s with
    outs := { s.outs with nrfd := v }
    lines := { s.lines with nrfd := s.busValue .nrfd v }
    events := s.events ++ [.setNRFD v] }

/-- `setNDAC(v)`: `ndac_o <- v`. -/
def State.setNDAC (v : Bool) (s : State) : State :=
  { s with
    outs := { s.outs with ndac := v }
    lines := { s.lines with ndac := s.busValue .ndac v }
    events := s.events ++ [.setNDAC v] }

/-- `setEOI(v)`: `eoi_o <- v`. -/
def State.setEOI (v : Bool) (s : State) : State :=
  { s with
    outs := { s.outs with eoi := v }
    lines := { s.lines with eoi := s.busValue .eoi v }
    events := s.events ++ [.setEOI v] }

/-- `setDAV(v)`: `dav_o <- v`. -/
def State.setDAV (v : Bool) (s : State) : State :=
  { s with
    outs := { s.outs with dav := v }
    lines := { s.lines with dav := s.busValue .dav v }
    events := s.events ++ [.setDAV v] }

/-- `status[slot] <- v` (R34): the event is emitted also where the field does not exist (log 9). -/
def State.writeStatus (slot : UnitNo) (v : StatusCode) (s : State) : State :=
  { s with status := setSlot s.status slot v, events := s.events ++ [.status slot v] }

/-- The Chip Core stores the port-A operand before it calls WRA or RSA: `ORA_v = d` (R30). -/
def State.coreStoreA (d : Byte) (s : State) : State :=
  { s with regs := { s.regs with ORA := d } }

/-- The Chip Core stores the port-B operand before it calls WRB or RSB: `ORB_v = d` (R30). -/
def State.coreStoreB (d : Byte) (s : State) : State :=
  { s with regs := { s.regs with ORB := d } }

/-- The Chip Core resets its registers before it calls RST: the view is `P_CORE_RESET` (R30, R170). -/
def State.coreReset (s : State) : State :=
  { s with regs := s.cfg.coreReset }

/-- `IC.assert(S, kind, clk)`: `ic_level[S] <- true; ic_clk[S] <- clk` (45_interrupt_routing.md R140). -/
def State.icAssert (clk : Nat) (s : State) : State :=
  { s with
    ic := { level := true, clk := clk }
    events := s.events ++ [.icAssert s.cfg.source s.cfg.irqKind clk] }

/-- `IC.deassert(S, kind)`: `ic_level[S] <- false` (R140). -/
def State.icDeassert (s : State) : State :=
  { s with
    ic := { s.ic with level := false }
    events := s.events ++ [.icDeassert s.cfg.source s.cfg.irqKind] }

/-- `IC.restore(S, level)`: `ic_level[S] <- level`, `ic_clk[S]` unchanged (R141). -/
def State.icRestore (level : Bool) (s : State) : State :=
  { s with
    ic := { s.ic with level := level }
    events := s.events ++ [.icRestore s.cfg.source level] }

/-- `SiblingRederive()` (41_atn_edge.md R104): a request without data to `P_SIBLING`. "What the receiver computes is outside the
block": that nothing else changes, whoever receives it, is the model's choice (log 13). -/
def State.siblingRederive (s : State) : State :=
  s.emit (.siblingRederive s.cfg.sibling)

/-- `DERIVE(p)`: publish NRFD, then NDAC, from the port-A byte and the latch (40_handshake.md R90, R93). -/
def State.derive (p : Byte) (s : State) : State :=
  (s.setNRFD (nrfdOf s.atnActive p)).setNDAC (ndacOf s.atnActive p)

end Sys2Proof.Machine
end

