-- ==== Sys2Proof/Machine/Flags.lean ====
section
/-! DEFINITION. The block's only flag, `atnActive` (10_state.md R37), and the edge detection against it. There are no condition
codes. -/

namespace Sys2Proof.Machine

/-- `atnActive <- b` (R23). -/
def State.setAtnActive (b : Bool) (s : State) : State :=
  { s with atnActive := b }

/-- The strict edge detector: an edge exists only where the new state differs from the latch (41_atn_edge.md R101, R102). -/
def edgeOf (prev new : Bool) : Option EdgeKind :=
  match prev, new with
  | true, false => some .fall
  | false, true => some .rise
  | true, true => none
  | false, false => none

/-- `SignalEdge(e)` if there is an edge (R101, R103). -/
def State.signalEdge (e : Option EdgeKind) (s : State) : State :=
  match e with
  | some k => s.emit (.signalEdge k)
  | none => s

end Sys2Proof.Machine
end

