-- ==== Sys2Proof/Machine/AtnEdge.lean ====
section
/-! DEFINITION. The ATN edge transition (41_atn_edge.md). -/

namespace Sys2Proof.Machine

/-- The legacy transition (R101): edge, latch, sibling request, DERIVE with the port-A byte the Chip Core holds. -/
def State.atnTransition (b : Bool) (s : State) : State :=
  let t := (((s.signalEdge (edgeOf s.atnActive b)).setAtnActive b).siblingRederive)
  t.derive t.regs.ORA

/-- ATN b: the transition on a legacy adapter (R101), no effect on a non-legacy one (R100). -/
def execAtn (b : Bool) (s : State) : Host.Outcome State Fault Refusal :=
  .next (if s.cfg.legacy then s.atnTransition b else s)

end Sys2Proof.Machine
end

