-- ==== Sys2Proof/Machine/Interrupt.lean ====
section
/-! DEFINITION. Interrupt routing: IRQ and IRR (45_interrupt_routing.md). -/

namespace Sys2Proof.Machine

/-- IRQ b @clk (R140); `clk` is the side input in State and is ignored on a deassert. -/
def execIrq (b : Bool) (s : State) : Host.Outcome State Fault Refusal :=
  .next (if b then s.icAssert s.clk else s.icDeassert)

/-- IRR b (R141). -/
def execIrr (b : Bool) (s : State) : Host.Outcome State Fault Refusal :=
  .next (s.icRestore b)

end Sys2Proof.Machine
end

