-- ==== Sys2Proof/Machine/PortRead.lean ====
section
/-! DEFINITION. The port reads RDA and RDB (43_port_read.md). They change no state of the spec (R133): the byte goes to the list
of returned bytes, the model's own field. -/

namespace Sys2Proof.Machine

/-- The byte a port-A read returns (R130, R132). -/
def State.portAByte (s : State) : Byte := merge (synthPortA s.lines) s.regs.ORA s.regs.DDRA

/-- The byte a port-B read returns (R131, R132). -/
def State.portBByte (s : State) : Byte := merge (synthPortB s.cfg.unit s.lines) s.regs.ORB s.regs.DDRB

/-- RDA (R130). -/
def execRda (s : State) : Host.Outcome State Fault Refusal :=
  .next (s.reply s.portAByte)

/-- RDB (R131). -/
def execRdb (s : State) : Host.Outcome State Fault Refusal :=
  .next (s.reply s.portBByte)

end Sys2Proof.Machine
end

