-- ==== Sys2Proof/Machine/PortWrite.lean ====
section
/-! DEFINITION. The port writes and restores WRA, RSA, WRB, RSB (42_port_write.md). -/

namespace Sys2Proof.Machine

/-- What WRA and RSA do once the Chip Core has stored `d`: "identical logic" (R110, R111). -/
def State.portAWrite (d : Byte) (s : State) : State :=
  ((s.derive d).setEOI (eoiOf d)).setDAV (davOf d)

/-- Whether the second drive's status is written too: `P_UNIT = 0 AND P_DUAL` (R112, R114). -/
def servesTwo (c : AdapterConfig) : Bool := c.unit == .u0 && c.dual

/-- What WRB and RSB do once the Chip Core has stored `d` (R112, R113, R114). -/
def State.portBWrite (d : Byte) (s : State) : State :=
  if servesTwo s.cfg then
    (s.writeStatus s.cfg.unit (primaryStatus d)).writeStatus .u1 (secondaryStatus d)
  else
    s.writeStatus s.cfg.unit (primaryStatus d)

/-- WRA d (R110). -/
def execWra (d : Byte) (s : State) : Host.Outcome State Fault Refusal :=
  .next ((s.coreStoreA d).portAWrite d)

/-- RSA d (R111). -/
def execRsa (d : Byte) (s : State) : Host.Outcome State Fault Refusal :=
  .next ((s.coreStoreA d).portAWrite d)

/-- WRB d (R112). -/
def execWrb (d : Byte) (s : State) : Host.Outcome State Fault Refusal :=
  .next ((s.coreStoreB d).portBWrite d)

/-- RSB d (R113). -/
def execRsb (d : Byte) (s : State) : Host.Outcome State Fault Refusal :=
  .next ((s.coreStoreB d).portBWrite d)

end Sys2Proof.Machine
end

