-- ==== Sys2Proof/Machine/Reset.lean ====
section
/-! DEFINITION. The reset operation RST (70_reset_and_hazards.md R170). -/

namespace Sys2Proof.Machine

/-- What the adapter does on RST once the Chip Core has reset its registers, in the source's order (R170). -/
def State.adapterReset (s : State) : State :=
  let t := ((s.setAtnActive false).setDAV false).setEOI false
  (t.derive t.regs.ORA).writeStatus t.cfg.unit bothIndicatorsActive

/-- RST (R170). -/
def execRst (s : State) : Host.Outcome State Fault Refusal :=
  .next s.coreReset.adapterReset

end Sys2Proof.Machine
end

