-- ==== Sys2Proof/Machine/Dispatch.lean ====
section
/-! DEFINITION. The dispatch of the ten operations (30_encoding.md R70). -/

namespace Sys2Proof.Machine

def exec (i : Instr) (s : State) : Host.Outcome State Fault Refusal :=
  match i with
  -- ports (42_port_write.md, 43_port_read.md)
  | .wra d => Sys2Proof.Machine.execWra d s
  | .rsa d => Sys2Proof.Machine.execRsa d s
  | .wrb d => Sys2Proof.Machine.execWrb d s
  | .rsb d => Sys2Proof.Machine.execRsb d s
  | .rda => Sys2Proof.Machine.execRda s
  | .rdb => Sys2Proof.Machine.execRdb s
  -- reset and the ATN edge detector (70_reset_and_hazards.md, 41_atn_edge.md)
  | .rst => Sys2Proof.Machine.execRst s
  | .atn b => Sys2Proof.Machine.execAtn b s
  -- interrupt routing (45_interrupt_routing.md)
  | .irq b => Sys2Proof.Machine.execIrq b s
  | .irr b => Sys2Proof.Machine.execIrr b s

end Sys2Proof.Machine
end

