-- ==== Sys2Proof/Machine/Environment.lean ====
section
/-! DEFINITION. What the collaborators do between operations (10_state.md R28, R30; 30_encoding.md R76): steps that call no
adapter operation. -/

namespace Sys2Proof.Machine

/-- `CoreSetDDR(port, v)` (R30): it changes nothing else (70_reset_and_hazards.md R178). -/
def State.coreSetDDR (port : Port) (v : Byte) (s : State) : State :=
  match port with
  | .a => { s with regs := { s.regs with DDRA := v } }
  | .b => { s with regs := { s.regs with DDRB := v } }

/-- Give a line a value. -/
def State.setLine (line : BusLine) (v : Bool) (s : State) : State :=
  { s with lines := setLineValue s.lines line v }

/-- A line's value from all contributions as they stand (R28). In SOLO the environment drives ATN (92 D4), so another agent's
contribution leaves it as it is: DESIGN CHOICE (log 6). -/
def State.formedValue (s : State) (line : BusLine) : Bool :=
  match outputTo s.outs line with
  | some own => s.busValue line own
  | none =>
    match s.cfg.combine with
    | .solo => s.lines.atn
    | .shared => atnValue s.others

/-- Another adapter passes `v` to the setter of `line`: it is recorded, and the line formed anew from all contributions (R28). The
adapter's own contributions come from its own setters alone (R26), so a step under its own identity, its `P_UNIT`, has no effect (log 5). -/
def State.contribute (agent : BusAgent) (line : BusLine) (v : Bool) (s : State) : State :=
  if agent = s.cfg.self then s
  else
    let t := { s with others := recordContribution agent line v s.others }
    t.setLine line (t.formedValue line)

/-- `!BUS line v`: the line's value is set directly, "for non-SOLO tests" (R76). In SOLO the four lines are the adapter's own
contributions (R28), so the step has no effect on them there, while it sets ATN: DESIGN CHOICE (log 6). -/
def State.forceLine (line : BusLine) (v : Bool) (s : State) : State :=
  if s.cfg.combine = .solo ∧ line ≠ .atn then s else s.setLine line v

/-- Another adapter of the drive context writes a status field (20_memory.md R60). -/
def State.driveStatus (slot : UnitNo) (v : StatusCode) (s : State) : State :=
  { s with status := setSlot s.status slot v }

/-- Teardown: nothing is delivered after it (70_reset_and_hazards.md R173). -/
def State.teardown (s : State) : State :=
  { s with inputs := [] }

/-- One collaborator step. Every one is taken: the only refusals are those of ill-formed configurations and words (60_exceptions.md
R150). -/
def applyEnv (e : EnvStep) (s : State) : State :=
  match e with
  | .atnLine b => s.setLine .atn b
  | .setDDR port v => s.coreSetDDR port v
  | .forceLine line b => s.forceLine line b
  | .contribute agent line b => s.contribute agent line b
  | .driveStatus slot v => s.driveStatus slot v
  | .teardown => s.teardown

end Sys2Proof.Machine
end

