-- ==== Sys2Proof/Machine/Deliver.lean ====
section
/-! DEFINITION. Taking the next input of the dispatch order and running it to completion (20_memory.md R56, R58, R59). -/

namespace Sys2Proof.Machine

/-- Take up an operation with its side input `clk` (30_encoding.md R73), the rest of the inputs waiting. -/
def State.deliver (rest : List Input) (clk : Nat) (s : State) : State :=
  { s with inputs := rest, clk := clk }

/-- The inputs that stay once the head is taken. -/
def State.await (rest : List Input) (s : State) : State :=
  { s with inputs := rest }

/-- The refusal of an undecodable word (30_encoding.md R74, R75). -/
def refusalOf : DecodeError → Refusal
  | .reservedOp => .reservedOp
  | .nonzeroReservedField => .nonzeroReservedField

/-- An operation word runs as the operation it decodes to, or is refused (R72 to R75). -/
def runWord (word : OpWord) (s : State) : Host.Outcome State Fault Refusal :=
  match decode word with
  | .ok i => exec i s
  | .error e => .refused (refusalOf e)

/-- Take the head of the inputs. With no input the block does nothing: it "never executes a word on its own" (R74, log 1). -/
def runNext (s : State) : Host.Outcome State Fault Refusal :=
  match s.inputs with
  | [] => .next s
  | .op word clk :: rest => runWord word (s.deliver rest clk)
  | .env e :: rest => .next (applyEnv e (s.await rest))

/-- The input that delivers an opcode-table word of `nbits` bits, its higher bits 0. -/
def tableInput (nbits w clk : Nat) : Input :=
  .op (BitVec.ofNat 16 (w % 2 ^ nbits)) clk

/-- The input that delivers an operation (one line of the syntax of R76). -/
def inputOf (i : Instr) (clk : Nat) : Input :=
  .op (encode i) clk

end Sys2Proof.Machine
end

