-- ==== Sys2Proof/Machine/Step.lean ====
section
/-! DEFINITION. One step of the machine, and where the next operation word is put (log 1). -/

namespace Sys2Proof.Machine

/-- One step: the next input, run to completion (20_memory.md R56). -/
def step (s : State) : Host.Outcome State Fault Refusal :=
  runNext s

/-- The state with an operation word put at the head of the dispatch order; its side input is the clock value that stands in the
state. -/
def State.withFetchWord (s : State) (nbits w : Nat) : State :=
  { s with inputs := tableInput nbits w s.clk :: s.inputs }

end Sys2Proof.Machine
end

