-- ==== Sys2Proof/Machine/Construct.lean ====
section
/-! DEFINITION. Construction of an adapter (70_reset_and_hazards.md R173): the check of R9, the one call of `registerSource`,
and the state it leaves, whose values are arguments because the spec states none (92 D7). -/

namespace Sys2Proof.Machine

/-- The constructed record: `S` is what `registerSource` answered (45_interrupt_routing.md R142). -/
def recordOf (raw : RawConfig) : AdapterConfig where
  unit := if raw.unit = 0 then .u0 else .u1
  legacy := raw.legacy
  dual := raw.dual
  slot1 := raw.slot1
  sourceName := raw.sourceName
  source := Config.registerSource raw.sourceName
  irqKind := raw.irqKind
  sibling := raw.sibling
  coreReset := raw.coreReset
  combine := raw.combine

/-- The state at construction, before the first reset. Construction calls no setter (92 D7); the lines are what the Bus Line Set
forms from all contributions as they stand (R28). -/
def constructed (raw : RawConfig) (init : InitValues) : State where
  cfg := recordOf raw
  atnActive := init.atnActive
  outs := init.outs
  lines :=
    formLines raw.combine (recordOf raw).self init.outs (canonicalContributions (recordOf raw).self init.others) init.atn
  others := canonicalContributions (recordOf raw).self init.others
  regs := init.regs
  status := initialStatus raw.slot1 init.status0 init.status1
  ic := init.ic
  clk := 0
  inputs := []
  events := [.registerSource raw.sourceName]
  returned := []

/-- Construction: an ill-formed configuration is "rejected immediately" and has no run (R9, R173). -/
def construct (raw : RawConfig) (init : InitValues) :
    Host.Outcome State Fault Refusal :=
  if raw.wf then .next (constructed raw init) else .refused .illFormedConfig

end Sys2Proof.Machine
end

