-- ==== Sys2Proof/Machine/Context.lean ====
section
/-! DEFINITION. Two adapters of one drive context (60_exceptions.md R159): each has its own latch, configuration, source id,
contributions, register view and traces. They share one Bus Line Set and one pair of drive status fields (20_memory.md R60), which
stand here once, so every access of either sees every earlier write of the other (R58). "Identities are `P_UNIT` values 0 and 1"
(R159): the place of an adapter in the context is its unit number and the agent as which it contributes, so the two are always
apart. A bus with two adapters is a shared one (log 17). A context with one adapter is the machine of State.lean. What a sibling
request makes its receiver compute is outside the block (41_atn_edge.md R104); `P_SIBLING` may name the other adapter of the
context, and that a request leaves that adapter as it is, is the model's DESIGN CHOICE (log 13). -/

namespace Sys2Proof.Machine

/-- What one adapter of a context has for itself. Its unit number is its place in the context. -/
structure AdapterPart where
  settings : AdapterSettings
  atnActive : Bool
  outs : Outputs
  regs : CoreRegs
  ic : IcState
  events : List Event
  returned : List Byte
  deriving DecidableEq, Repr

/-- One entry of the total order of a context (20_memory.md R58): an operation of one of its adapters, or a collaborator's step. -/
inductive ContextInput where
  /-- An operation word delivered to the adapter of a unit. -/
  | op (u : UnitNo) (word : OpWord) (clk : Nat)
  /-- `CoreSetDDR(port, v)` of a unit's Chip Core. -/
  | setDDR (u : UnitNo) (port : Port) (v : Byte)
  /-- `!ATNLINE b`. -/
  | atnLine (b : Bool)
  /-- `!BUS line b`. -/
  | forceLine (line : BusLine) (b : Bool)
  /-- A third participant on the bus, no adapter of this context, passes `b` to the setter of `line`. -/
  | contribute (id : AdapterId) (line : BusLine) (b : Bool)
  /-- The adapter of a unit is destroyed. -/
  | teardown (u : UnitNo)
  deriving DecidableEq, Repr

/-- A drive context with the adapters of unit 0 and unit 1. -/
structure Context where
  /-- The one Bus Line Set (R28). -/
  lines : LineValues
  /-- The contributions of the other participants on the bus. -/
  others : List Contribution
  /-- The drive status fields (R34). -/
  status : DriveStatus
  /-- The inputs still to come, in the total order. -/
  inputs : List ContextInput
  a0 : AdapterPart
  a1 : AdapterPart
  deriving DecidableEq, Repr

/-- The other unit of the context. -/
def otherUnit : UnitNo → UnitNo
  | .u0 => .u1
  | .u1 => .u0

/-- The adapter of a unit. -/
def Context.part (c : Context) : UnitNo → AdapterPart
  | .u0 => c.a0
  | .u1 => c.a1

/-- All contributions but those of the adapter of unit `u`: the other adapter's, recorded among the third participants'. -/
def Context.contributionsBeside (c : Context) (u : UnitNo) : List Contribution :=
  recordOutputs (.unit (otherUnit u)) (c.part (otherUnit u)).outs c.others

/-- All contributions to the lines. -/
def Context.contributions (c : Context) : List Contribution :=
  recordOutputs (.unit .u0) c.a0.outs (recordOutputs (.unit .u1) c.a1.outs c.others)

/-- The state that the adapter of unit `u` runs in: its own part, and the shared state as it stands. -/
def Context.view (c : Context) (u : UnitNo) : State where
  cfg := { toAdapterSettings := (c.part u).settings, unit := u, combine := .shared }
  atnActive := (c.part u).atnActive
  outs := (c.part u).outs
  lines := c.lines
  others := c.contributionsBeside u
  regs := (c.part u).regs
  status := c.status
  ic := (c.part u).ic
  clk := 0
  inputs := []
  events := (c.part u).events
  returned := (c.part u).returned

/-- The part of an adapter after it has run to `t`; its configuration is constant (R8). -/
def AdapterPart.after (p : AdapterPart) (t : State) : AdapterPart where
  settings := p.settings
  atnActive := t.atnActive
  outs := t.outs
  regs := t.regs
  ic := t.ic
  events := t.events
  returned := t.returned

/-- The context after the adapter of unit `u` has run to `t`: its part and the shared state are `t`'s. -/
def Context.store (c : Context) (u : UnitNo) (t : State) : Context :=
  match u with
  | .u0 => { c with lines := t.lines, status := t.status, a0 := c.a0.after t }
  | .u1 => { c with lines := t.lines, status := t.status, a1 := c.a1.after t }

/-- The context that a run of unit `u`'s adapter answers. -/
def Context.answer (c : Context) (u : UnitNo) : Host.Outcome State Fault Refusal → Host.Outcome Context Fault Refusal
  | .next t => .next (c.store u t)
  | .fault r => .fault r
  | .refused r => .refused r

/-- One operation of the adapter of unit `u`, the next in the total order of the context (R58, R59). -/
def Context.run (u : UnitNo) (i : Instr) (clk : Nat) (c : Context) : Host.Outcome Context Fault Refusal :=
  c.answer u (exec i ((c.view u).deliver [] clk))

/-- Give a line of the context a value. -/
def Context.setLine (line : BusLine) (v : Bool) (c : Context) : Context :=
  { c with lines := setLineValue c.lines line v }

/-- The value of a line from all contributions as they stand (R28). -/
def Context.formedValue (c : Context) (line : BusLine) : Bool :=
  Config.busCombine line (contributionsTo line c.contributions)

/-- A third participant passes `v` to the setter of `line`. The adapters of the context contribute through their own setters alone
(R26). -/
def Context.contribute (id : AdapterId) (line : BusLine) (v : Bool) (c : Context) : Context :=
  let d := { c with others := recordContribution (.other id) line v c.others }
  d.setLine line (d.formedValue line)

/-- Whether an input concerns the adapter of unit `u` alone. -/
def ContextInput.isFor (u : UnitNo) : ContextInput → Bool
  | .op v _ _ => v == u
  | .setDDR v _ _ => v == u
  | .atnLine _ => false
  | .forceLine _ _ => false
  | .contribute _ _ _ => false
  | .teardown v => v == u

/-- Teardown of the adapter of unit `u`: no operation is delivered to it any more (70_reset_and_hazards.md R173). -/
def Context.teardown (u : UnitNo) (c : Context) : Context :=
  { c with inputs := c.inputs.filter (fun i => !i.isFor u) }

/-- The context with the rest of its inputs waiting. -/
def Context.await (rest : List ContextInput) (c : Context) : Context := { c with inputs := rest }

/-- One input of the total order (R58): an operation word runs on its adapter or is refused, a collaborator's step is taken. -/
def Context.take (c : Context) : ContextInput → Host.Outcome Context Fault Refusal
  | .op u word clk => c.answer u (runWord word ((c.view u).deliver [] clk))
  | .setDDR u port v => .next (c.store u ((c.view u).coreSetDDR port v))
  | .atnLine b => .next (c.setLine .atn b)
  | .forceLine line b => .next (c.setLine line b)
  | .contribute id line b => .next (c.contribute id line b)
  | .teardown u => .next (c.teardown u)

/-- One step of a context: the head of its inputs. With no input it idles (log 1). -/
def Context.step (c : Context) : Host.Outcome Context Fault Refusal :=
  match c.inputs with
  | [] => .next c
  | i :: rest => (c.await rest).take i

/-- Steps of a context, one after the other. -/
def Context.steps : Nat → Context → Host.Outcome Context Fault Refusal
  | 0, c => .next c
  | n + 1, c =>
    match c.step with
    | .next x => x.steps n
    | .fault r => .fault r
    | .refused r => .refused r

/-- The pair `!ATNLINE b`, `ATN b` by which a change of the bus ATN line reaches the adapter of unit `u` (30_encoding.md R77). -/
def atnPair (b : Bool) (u : UnitNo) (clk : Nat) : List ContextInput :=
  [.atnLine b, .op u (encode (.atn b)) clk]

/-- A change of the bus ATN line "for each adapter on the bus" (R77, decision D29). The spec does not say to which of the two
adapters it is delivered first (R20, R59, R77, R159): that adapter is the argument `first`, so the model takes neither order for
granted. DESIGN CHOICE that the order is an argument (log 17). -/
def atnInputs (b : Bool) (first : UnitNo) (clk0 clk1 : Nat) : List ContextInput :=
  atnPair b first clk0 ++ atnPair b (otherUnit first) clk1

/-- The context's lines formed anew from all contributions (R28): what the Bus Line Set holds when the context is put together. -/
def Context.form (c : Context) : Context :=
  { c with
    lines :=
      { atn := c.formedValue .atn
        dav := c.formedValue .dav
        eoi := c.formedValue .eoi
        nrfd := c.formedValue .nrfd
        ndac := c.formedValue .ndac } }

/-- The four lines of the Bus Line Set are formed from all contributions as they stand (R28). -/
def Context.linesFormed (c : Context) : Prop :=
  c.lines.dav = c.formedValue .dav ∧ c.lines.eoi = c.formedValue .eoi ∧
  c.lines.nrfd = c.formedValue .nrfd ∧ c.lines.ndac = c.formedValue .ndac

end Sys2Proof.Machine
end

