-- ==== Sys2Proof/Machine/Trace.lean ====
section
/-! DEFINITION. Readings of the event trace: the edge events and the calls of the Interrupt Controller in it. -/

namespace Sys2Proof.Machine

/-- The edge kind an event signals, if it is an edge event (41_atn_edge.md R103). -/
def edgeKindOf : Event → Option EdgeKind
  | .signalEdge e => some e
  | .setNRFD _ => none
  | .setNDAC _ => none
  | .setEOI _ => none
  | .setDAV _ => none
  | .siblingRederive _ => none
  | .icAssert _ _ _ => none
  | .icDeassert _ _ => none
  | .icRestore _ _ => none
  | .status _ _ => none
  | .registerSource _ => none

/-- The edge events of a trace, in order. -/
def edgesOf (l : List Event) : List EdgeKind := l.filterMap edgeKindOf

/-- The source id an event names, if it is a call of the Interrupt Controller about a source (60_exceptions.md R158). -/
def icSourceOf : Event → Option SourceId
  | .icAssert source _ _ => some source
  | .icDeassert source _ => some source
  | .icRestore source _ => some source
  | .setNRFD _ => none
  | .setNDAC _ => none
  | .setEOI _ => none
  | .setDAV _ => none
  | .signalEdge _ => none
  | .siblingRederive _ => none
  | .status _ _ => none
  | .registerSource _ => none

/-- The sources named by a trace's calls of the Interrupt Controller, in order. -/
def icSourcesOf (l : List Event) : List SourceId := l.filterMap icSourceOf

end Sys2Proof.Machine
end

