-- ==== Sys2Proof/Machine/CoreEdge.lean ====
section
/-! DEFINITION. The machine together with the Chip Core's answer to its edge events, `P_CORE_EDGE` (00_scope.md R8, 92 D15), taken
as an argument. The Chip Core calls nothing inside an operation: an IRQ in answer to an edge "is a separate operation after the ATN
operation completes" (92 D13, 70_reset_and_hazards.md R180), so it joins the inputs still to come. When it is delivered among them
is left open (log 12). -/

namespace Sys2Proof.Machine

/-- The input that delivers an `IRQ b @clk` (30_encoding.md R73). -/
def irqInput (c : IrqCall) : Input := inputOf (.irq c.level) c.clk

/-- The Chip Core answers a list of edge events, in their order. Without an edge event its state stays as it is and it calls nothing:
the spec gives `P_CORE_EDGE` for edges only (92 D15, 41_atn_edge.md R103) and leaves open what else changes the Chip Core's state (its
own reset before RST, register writes, the clearing of a pending flag; 00_scope.md R6). DESIGN CHOICE (log 12). -/
def coreAnswers {Core : Type} (P : CoreEdge Core) (k : Core) (k' : Core) : List EdgeKind → List IrqCall → Prop
  | [], calls => k' = k ∧ calls = []
  | e :: es, calls => ∃ m first rest, P.rel k e m first ∧ coreAnswers P m k' es rest ∧ calls = first ++ rest

/-- The edge events that a step from `s` to `u` has added. -/
def addedEdges (s u : State) : List EdgeKind := edgesOf (u.events.drop s.events.length)

/-- The first list is made of the two others, each in its own order. -/
def interleaves : List Input → List Input → List Input → Prop
  | [], xs, ys => xs = [] ∧ ys = []
  | z :: zs, xs, ys => (∃ xs', xs = z :: xs' ∧ interleaves zs xs' ys) ∨ ∃ ys', ys = z :: ys' ∧ interleaves zs xs ys'

/-- One step of the adapter with its Chip Core in state `k`: the step, then the Chip Core's answer to the edge events it signalled,
whose IRQ calls are put among the inputs still to come, in their order. A step without an edge keeps `k`: DESIGN CHOICE (log 12). -/
def coreStep {Core : Type} (P : CoreEdge Core) (k : Core) (s : State) (k' : Core) (t : State) : Prop :=
  ∃ u calls inputs, step s = .next u ∧ coreAnswers P k k' (addedEdges s u) calls ∧
    interleaves inputs (calls.map irqInput) u.inputs ∧ t = { u with inputs := inputs }

/-- A named property that a claim may assume of `P_CORE_EDGE` (93 U3): every RISE is answered, and always with one assert. -/
def riseRaisesInterrupt {Core : Type} (P : CoreEdge Core) : Prop :=
  ∀ k, (∃ k' calls, P.rel k .rise k' calls) ∧ ∀ k' calls, P.rel k .rise k' calls → ∃ clk, calls = [⟨true, clk⟩]

end Sys2Proof.Machine
end

