-- ==== Sys2Proof/Safety.lean ====
section
/-! DEFINITION. What holds of the machine between operations: the invariant that claims are stated in terms of. -/

namespace Sys2Proof.Machine

/-- In SOLO the four line values are the adapter's contributions (10_state.md R28, 92 D4). -/
def State.soloLinesAgree (s : State) : Prop :=
  s.cfg.combine = .solo →
    s.lines.dav = s.outs.dav ∧ s.lines.eoi = s.outs.eoi ∧ s.lines.nrfd = s.outs.nrfd ∧ s.lines.ndac = s.outs.ndac

/-- NRFD and NDAC are what the derivation gives for the last-known port-A byte and the latch (40_handshake.md R90, R91). -/
def State.handshakeDerived (s : State) : Prop :=
  s.outs.nrfd = nrfdOf s.atnActive s.regs.ORA ∧ s.outs.ndac = ndacOf s.atnActive s.regs.ORA

/-- The latch of a non-legacy adapter is false once it has been reset (10_state.md R25). -/
def State.latchInert (s : State) : Prop := s.cfg.legacy = false → s.atnActive = false

/-- The four lines are formed from all contributions as they stand (10_state.md R28). -/
def State.linesFormed (s : State) : Prop :=
  s.lines.dav = s.busValue .dav s.outs.dav ∧ s.lines.eoi = s.busValue .eoi s.outs.eoi ∧
  s.lines.nrfd = s.busValue .nrfd s.outs.nrfd ∧ s.lines.ndac = s.busValue .ndac s.outs.ndac

/-- The invariant of a machine that has been reset: configuration well formed (00_scope.md R9), inert latch on a non-legacy
adapter, handshake lines derived, SOLO lines agree, the other adapters' contributions in canonical form and none of them the
adapter's own (log 5), `status[1]` there exactly with `P_SLOT1` (10_state.md R34). -/
structure State.Inv (s : State) : Prop where
  config : s.cfg.wf = true
  latch : s.latchInert
  handshake : s.handshakeDerived
  solo : s.soloLinesAgree
  ordered : contributionsOrdered s.others = true
  foreign : contributionsForeign s.cfg.self s.others = true
  slot : s.status.slot1.isSome = s.cfg.slot1

/-- The operations of a list, one after the other, stopping at the first that is not answered by a next state. -/
def execAll : List Instr → State → Host.Outcome State Fault Refusal
  | [], s => .next s
  | i :: is, s =>
    match exec i s with
    | .next t => execAll is t
    | .fault r => .fault r
    | .refused r => .refused r

/-- A safe run of `k` steps: no step is refused. (No step can fault, since `Fault` is empty.) -/
def SafeRun : Nat → State → Prop
  | 0, _ => True
  | k + 1, s => ∃ t, step s = .next t ∧ SafeRun k t

end Sys2Proof.Machine
end

