-- ==== Sys2Proof/Certificates/Slice0/Obligations.lean ====
section
/-! DEFINITION. The statements about the block, from the numbered rules of spec/. Where a rule rests on a decision of the spec
(92_eei_decisions.md D<n>) or on a choice of the model (log <n>), the docstring says so. Four choices of form are common to the
statements and not repeated in each: the calls an operation makes and the bytes it returns are two lists in State (log 15), the side
input is a field of State (log 16), the Chip Core's store or reset of its registers belongs to the operation's step (log 7), and
State holds the line values and which of P_BUS_COMBINE and SOLO forms them (logs 5 and 6). -/

open Sys2Proof Sys2Proof.Machine

/-! ## Encoding (30_encoding.md) -/

/-- The masks and matches of the ten rows of R72, as the spec writes them. -/
def Sys2Proof.tableRows : List (OpWord × OpWord) :=
  [(0xFF00, 0x1000), (0xFF00, 0x2000), (0xFF00, 0x3000), (0xFF00, 0x4000), (0xFFFF, 0x5000),
   (0xFFFF, 0x6000), (0xFFFF, 0x7000), (0xFEFF, 0x8000), (0xFEFF, 0x9000), (0xFEFF, 0xA000)]

/-- Words of 95_test_vectors.md V9 decode as it says. The encoding is the spec's decision D2, the refusals D17. -/
def Obligations.SpecWordsDecodeAsWritten : Prop :=
  decode 0x101C = .ok (.wra 0x1C) ∧ decode 0x2000 = .ok (.rsa 0x00) ∧ decode 0x30FF = .ok (.wrb 0xFF) ∧
  decode 0x4028 = .ok (.rsb 0x28) ∧ decode 0x5000 = .ok .rda ∧ decode 0x6000 = .ok .rdb ∧
  decode 0x7000 = .ok .rst ∧ decode 0x8100 = .ok (.atn true) ∧ decode 0x8000 = .ok (.atn false) ∧
  decode 0x9100 = .ok (.irq true) ∧ decode 0xA000 = .ok (.irr false) ∧
  decode 0x0000 = .error .reservedOp ∧ decode 0xB000 = .error .reservedOp ∧ decode 0xF123 = .error .reservedOp ∧
  decode 0x1200 = .error .nonzeroReservedField ∧ decode 0x1100 = .error .nonzeroReservedField ∧
  decode 0x5001 = .error .nonzeroReservedField ∧ decode 0x7100 = .error .nonzeroReservedField ∧
  decode 0x8101 = .error .nonzeroReservedField ∧ decode 0x8200 = .error .nonzeroReservedField ∧
  decode 0x9E00 = .error .nonzeroReservedField ∧ decode 0xA1FF = .error .nonzeroReservedField

/-- Decoding an encoded operation gives it back, for every operation and operand (R71 to R73; decision D2). -/
def Obligations.EncodeThenDecodeReturnsTheOperation : Prop :=
  ∀ i : Instr, decode (encode i) = .ok i

/-- A word that decodes to an operation is that operation's encoding: no bit of a word is dropped, no operation has two words
(R71 to R73; decision D2). -/
def Obligations.DecodedWordIsTheEncoding : Prop :=
  ∀ (w : OpWord) (i : Instr), decode w = .ok i → encode i = w

/-- A word has a meaning iff it matches a row of R72, is refused as reserved iff its op code is 0x0 or 0xB to 0xF (R74), and is
refused for a nonzero field iff its op code is defined and it matches no row (R75). Decisions D2 and D17. -/
def Obligations.WordsOutsideTheTableAreRefused : Prop :=
  ∀ w : OpWord,
    ((∃ i, decode w = .ok i) ↔ ∃ r ∈ tableRows, w &&& r.1 = r.2) ∧
    (decode w = .error .reservedOp ↔ (w >>> 12 = 0 ∨ 0xB ≤ w >>> 12)) ∧
    (decode w = .error .nonzeroReservedField ↔
      0x1 ≤ w >>> 12 ∧ w >>> 12 ≤ 0xA ∧ ∀ r ∈ tableRows, w &&& r.1 ≠ r.2)

/-! ## The step -/

/-- A step with a decodable operation word at the head of the inputs runs exactly that operation, with the word's clock value
as side input and the other inputs waiting (R73; 20_memory.md R56, R59). The list of inputs is the model's choice (log 1). -/
def Obligations.StepRunsTheDecodedOperation : Prop :=
  ∀ (s : State) (w : OpWord) (clk : Nat) (rest : List Input) (i : Instr),
    s.inputs = .op w clk :: rest → decode w = .ok i →
      step s = exec i { s with inputs := rest, clk := clk }

/-- A step with an undecodable word is refused by the name of the reason (R74, R75; decision D17). -/
def Obligations.StepRefusesUndecodableWords : Prop :=
  ∀ (s : State) (w : OpWord) (clk : Nat) (rest : List Input), s.inputs = .op w clk :: rest →
    (decode w = .error .reservedOp → step s = .refused .reservedOp) ∧
    (decode w = .error .nonzeroReservedField → step s = .refused .nonzeroReservedField)

/-- With no input nothing happens (the model's choice, log 1). These collaborator steps change what they name and nothing else:
`!ATNLINE`, `CoreSetDDR` (10_state.md R30, R76; decision D5), another adapter's status write (decision D25; without effect on a
`status[1]` that does not exist, log 9; a collaborator step, log 17), teardown (70_reset_and_hazards.md R173, log 18). -/
def Obligations.CollaboratorStepsChangeWhatTheyName : Prop :=
  ∀ (s : State) (rest : List Input) (b : Bool) (v : Byte) (c : StatusCode),
    step { s with inputs := [] } = .next { s with inputs := [] } ∧
    step { s with inputs := .env (.atnLine b) :: rest } =
      .next { s with inputs := rest, lines := { s.lines with atn := b } } ∧
    step { s with inputs := .env (.setDDR .a v) :: rest } =
      .next { s with inputs := rest, regs := { s.regs with DDRA := v } } ∧
    step { s with inputs := .env (.setDDR .b v) :: rest } =
      .next { s with inputs := rest, regs := { s.regs with DDRB := v } } ∧
    step { s with inputs := .env (.driveStatus .u0 c) :: rest } =
      .next { s with inputs := rest, status := { s.status with slot0 := c } } ∧
    step { s with inputs := .env (.driveStatus .u1 c) :: rest } =
      .next { s with inputs := rest, status := { s.status with slot1 := s.status.slot1.map fun _ => c } } ∧
    step { s with inputs := .env .teardown :: rest } = .next { s with inputs := [] }

/-- Another adapter's contribution, to any line and in either mode: it is recorded, and the line is formed anew (10_state.md R28;
decision D4), on a shared bus by the open function of all contributions as they stand, the adapter's own among them (none to ATN,
R27), in SOLO as the own contribution, ATN keeping the value the environment drove. `!BUS` sets a line directly, ATN in SOLO too.
The model's choices: the canonical list of contributions with their agents, the line values held in State, and that a contribution
under the adapter's own identity has no effect (log 5); and of SOLO, where R28 and D4 give the line values and R76 leaves BUS to
non-SOLO tests, that another agent's contribution is recorded there while ATN stays as driven, that `!BUS` sets ATN there, and that it
has no effect on the four other lines (log 6). -/
def Obligations.LinesFollowAllContributions : Prop :=
  ∀ (s : State) (rest : List Input) (agent : BusAgent) (line : BusLine) (b : Bool),
    let recorded := recordContribution agent line b s.others
    let formed (own : Bool) : Bool :=
      match s.cfg.combine with
      | .solo => own
      | .shared => Config.busCombine line (contributionsTo line (recordContribution s.cfg.self line own recorded))
    let value : Bool :=
      match line with
      | .atn =>
        match s.cfg.combine with
        | .solo => s.lines.atn
        | .shared => Config.busCombine .atn (contributionsTo .atn recorded)
      | .dav => formed s.outs.dav
      | .eoi => formed s.outs.eoi
      | .nrfd => formed s.outs.nrfd
      | .ndac => formed s.outs.ndac
    (agent ≠ s.cfg.self →
      (agent, b) ∈ contributionsTo line recorded ∧
      step { s with inputs := .env (.contribute agent line b) :: rest } =
        .next { s with inputs := rest, others := recorded, lines := setLineValue s.lines line value }) ∧
    (agent = s.cfg.self →
      step { s with inputs := .env (.contribute agent line b) :: rest } = .next { s with inputs := rest }) ∧
    ((s.cfg.combine = .shared ∨ line = .atn) →
      step { s with inputs := .env (.forceLine line b) :: rest } =
        .next { s with inputs := rest, lines := setLineValue s.lines line b }) ∧
    (s.cfg.combine = .solo → line ≠ .atn →
      step { s with inputs := .env (.forceLine line b) :: rest } = .next { s with inputs := rest })

/-- The four lines are formed from all contributions when an adapter is constructed, and every step but a `!BUS` step keeps them so;
the same of the one Bus Line Set of a context (10_state.md R28; 60_exceptions.md R159; decision D4; the list of contributions is log
5, another agent's contribution in SOLO log 6, the context and its shared bus log 17). -/
def Obligations.LinesStayFormed : Prop :=
  (∀ (raw : RawConfig) (init : InitValues) (s : State), construct raw init = .next s → s.linesFormed) ∧
  (∀ s t : State, s.linesFormed → (∀ l b rest, s.inputs ≠ .env (.forceLine l b) :: rest) → step s = .next t → t.linesFormed) ∧
  (∀ c : Context, c.form.linesFormed) ∧
  ∀ c x : Context, c.linesFormed → (∀ l b rest, c.inputs ≠ .forceLine l b :: rest) →
    c.step = .next x → x.linesFormed

/-- A step is refused only for a reserved op code or a nonzero reserved field (60_exceptions.md R150; 30_encoding.md R74, R75;
decision D17). No step faults, since there is no fault (R151). That the collaborator steps complete in SOLO too, contributions of
others and `!BUS` among them, is the model's choice (log 6). -/
def Obligations.StepRefusesOnlyForTheseReasons : Prop :=
  ∀ (s : State) (r : Refusal), step s = .refused r →
    ∃ w clk rest, s.inputs = .op w clk :: rest ∧
      ((r = .reservedOp ∧ decode w = .error .reservedOp) ∨
       (r = .nonzeroReservedField ∧ decode w = .error .nonzeroReservedField))

/-! ## The handshake derivation (40_handshake.md) -/

/-- `DERIVE(p)` publishes the source's equations, NRFD before NDAC, and does nothing else (R90). That the two lines are formed anew
is 10_state.md R28 under decision D4; the list of contributions and the line values in State are the model's choice (log 5). -/
def Obligations.DeriveFollowsTheEquations : Prop :=
  ∀ (p : Byte) (s : State),
    let nrfd := !((s.atnActive == p.getLsbD 0) && p.getLsbD 2)
    let ndac := !(!p.getLsbD 1 && (p.getLsbD 0 || !s.atnActive))
    s.derive p =
      { s with
        outs := { s.outs with nrfd := nrfd, ndac := ndac }
        lines := { s.lines with
          nrfd := lineValue s.cfg.combine s.cfg.self .nrfd nrfd s.others
          ndac := lineValue s.cfg.combine s.cfg.self .ndac ndac s.others }
        events := s.events ++ [.setNRFD nrfd, .setNDAC ndac] }

/-- What `DERIVE` publishes is a function of `(p[2:0], atnActive)` alone, and deriving again publishes the same values (R92). -/
def Obligations.DeriveUsesThreeBitsAndTheLatch : Prop :=
  (∀ (p q : Byte) (s u : State), p.extractLsb' 0 3 = q.extractLsb' 0 3 → s.atnActive = u.atnActive →
    (s.derive p).outs.nrfd = (u.derive q).outs.nrfd ∧ (s.derive p).outs.ndac = (u.derive q).outs.ndac) ∧
  ∀ (p : Byte) (s : State),
    ((s.derive p).derive p).outs = (s.derive p).outs ∧ ((s.derive p).derive p).lines = (s.derive p).lines

/-! ## Port writes and restores (42_port_write.md) -/

/-- WRA d and RSA d: the whole next state (R110, R111). The Chip Core's store of `d` is decision D5, the order of the four
setters decision D12. That the four lines are formed anew is 10_state.md R28 under decision D4, from the list of log 5. -/
def Obligations.PortAWriteAndRestorePublish : Prop :=
  ∀ (d : Byte) (s : State),
    let nrfd := !((s.atnActive == d.getLsbD 0) && d.getLsbD 2)
    let ndac := !(!d.getLsbD 1 && (d.getLsbD 0 || !s.atnActive))
    let eoi := !d.getLsbD 3
    let dav := !d.getLsbD 4
    let t : State :=
      { s with
        regs := { s.regs with ORA := d }
        outs := { nrfd := nrfd, ndac := ndac, eoi := eoi, dav := dav }
        lines :=
          { atn := s.lines.atn
            dav := lineValue s.cfg.combine s.cfg.self .dav dav s.others
            eoi := lineValue s.cfg.combine s.cfg.self .eoi eoi s.others
            nrfd := lineValue s.cfg.combine s.cfg.self .nrfd nrfd s.others
            ndac := lineValue s.cfg.combine s.cfg.self .ndac ndac s.others }
        events := s.events ++ [.setNRFD nrfd, .setNDAC ndac, .setEOI eoi, .setDAV dav] }
    exec (.wra d) s = .next t ∧ exec (.rsa d) s = .next t

/-- RSA d (R111): its word, what it publishes, the same effect as WRA d in every respect, and the round trip: where the latch
equals its captured value the restore publishes what the original write published, whatever else has changed; it does not
restore the latch, signals no edge and sends no sibling request. -/
def Obligations.PortARestoreRoundTrip : Prop :=
  ∀ (d : Byte) (s u : State),
    decode (0b00100000#8 ++ d) = .ok (.rsa d) ∧
    exec (.rsa d) u = exec (.wra d) u ∧
    ∃ v new, exec (.rsa d) u = .next v ∧ v.events = u.events ++ new ∧ v.atnActive = u.atnActive ∧
      v.outs.nrfd = (!((u.atnActive == d.getLsbD 0) && d.getLsbD 2)) ∧
      v.outs.ndac = (!(!d.getLsbD 1 && (d.getLsbD 0 || !u.atnActive))) ∧
      v.outs.eoi = (!d.getLsbD 3) ∧ v.outs.dav = (!d.getLsbD 4) ∧
      new = [.setNRFD v.outs.nrfd, .setNDAC v.outs.ndac, .setEOI v.outs.eoi, .setDAV v.outs.dav] ∧
      (∀ e, .signalEdge e ∉ new) ∧ (∀ a, .siblingRederive a ∉ new) ∧
      (s.atnActive = u.atnActive → ∃ t, exec (.wra d) s = .next t ∧ v.outs = t.outs)

/-- The restore-order hazard (70_reset_and_hazards.md R175; 95_test_vectors.md P4 steps 4 and 6): the byte 0x1D written while
the latch was set, restored while it is clear, publishes another NRFD. Decision D23. -/
def Obligations.RestoreWithAnotherLatchDiffers : Prop :=
  ∀ s u : State, s.atnActive = true → u.atnActive = false →
    ∃ t v, exec (.wra 0x1D) s = .next t ∧ exec (.rsa 0x1D) u = .next v ∧
      t.outs.nrfd = false ∧ v.outs.nrfd = true ∧ t.outs.ndac = false ∧ v.outs.ndac = false

/-- How a snapshot's latch is brought back (70_reset_and_hazards.md R175; decision D23): on a legacy adapter, RST, then ATN with
the captured latch, then RSA d publishes what the original write published, whatever the state before. On an adapter that was
reset and whose latch was captured as false, RST and RSA d are enough. -/
def Obligations.ResetAndAtnBringBackTheCapturedLatch : Prop :=
  ∀ (d : Byte) (s u : State), ∃ t r, exec (.wra d) s = .next t ∧ exec .rst u = .next r ∧
    (u.cfg.legacy = true →
      ∃ a v, exec (.atn s.atnActive) r = .next a ∧ exec (.rsa d) a = .next v ∧ v.outs = t.outs) ∧
    (s.atnActive = false → ∃ v, exec (.rsa d) r = .next v ∧ v.outs = t.outs)

/-- WRB d and RSB d: the whole next state, by configuration (R112, R113, R114). The Chip Core's store of `d` is decision D5,
the target `status[P_UNIT]` decision D10; a write to a `status[1]` that does not exist (10_state.md R34) has no effect (log 9). -/
def Obligations.PortBWriteAndRestoreSetStatus : Prop :=
  ∀ (d : Byte) (s : State) (i : Instr), (i = .wrb d ∨ i = .rsb d) →
    let primary : StatusCode := d.extractLsb' 4 2
    let second : StatusCode := BitVec.ofBool (d.getLsbD 5) ++ BitVec.ofBool (d.getLsbD 3)
    (s.cfg.unit = .u0 → s.cfg.dual = true → exec i s = .next { s with
      regs := { s.regs with ORB := d }
      status := { slot0 := primary, slot1 := s.status.slot1.map fun _ => second }
      events := s.events ++ [.status .u0 primary, .status .u1 second] }) ∧
    (s.cfg.unit = .u0 → s.cfg.dual = false → exec i s = .next { s with
      regs := { s.regs with ORB := d }
      status := { slot0 := primary, slot1 := s.status.slot1 }
      events := s.events ++ [.status .u0 primary] }) ∧
    (s.cfg.unit = .u1 → exec i s = .next { s with
      regs := { s.regs with ORB := d }
      status := { slot0 := s.status.slot0, slot1 := s.status.slot1.map fun _ => primary }
      events := s.events ++ [.status .u1 primary] })

/-- The second drive's status (R114): on a unit-0 adapter of a dual unit, after the primary write, bit 3 is the activity and bit
5 the error of slot 1, bit 5 the error of both drives, bit 4 the activity of drive 0 alone; 0x28 gives 2 and 3. The
field takes the code where it exists (10_state.md R34). No other operation and no other configuration carries state from one slot to the other. -/
def Obligations.SecondDriveStatusOnlyFromDualUnitZero : Prop :=
  (∀ (d : Byte) (s : State) (i : Instr), (i = .wrb d ∨ i = .rsb d) → s.cfg.unit = .u0 → s.cfg.dual = true →
    ∃ t, ∃ second : StatusCode, exec i s = .next t ∧
      t.events = s.events ++ [.status .u0 t.status.slot0, .status .u1 second] ∧
      t.status.slot1 = s.status.slot1.map (fun _ => second) ∧
      second = (if d.getLsbD 3 then 1 else 0) ||| (if d.getLsbD 5 then 2 else 0) ∧
      second.getLsbD 0 = d.getLsbD 3 ∧ second.getLsbD 1 = d.getLsbD 5 ∧
      t.status.slot0.getLsbD 0 = d.getLsbD 4 ∧ t.status.slot0.getLsbD 1 = d.getLsbD 5 ∧
      (d = 0b00101000 → t.status.slot0 = 2 ∧ second = 3)) ∧
  ∀ (i : Instr) (s t : State), exec i s = .next t →
    (s.cfg.unit = .u0 → t.status.slot1 ≠ s.status.slot1 → s.cfg.dual = true ∧ ∃ d, i = .wrb d ∨ i = .rsb d) ∧
    (s.cfg.unit = .u1 → t.status.slot0 = s.status.slot0)

/-- Writing or restoring the same byte again changes nothing but the trace, for both ports (20_memory.md R55; the port-B half
is the spec's inference). -/
def Obligations.PortWritesAreIdempotent : Prop :=
  ∀ (d : Byte) (s : State) (i : Instr), i ∈ [.wra d, .rsa d, .wrb d, .rsb d] →
    ∃ t u, exec i s = .next t ∧ exec i t = .next u ∧ u.arch = t.arch

/-- The direction registers do not enter a port write or restore (10_state.md R33): with other direction bytes it does the same
and leaves those bytes. The writes' effects on the register view are decision D5. -/
def Obligations.DirectionBytesDoNotEnterWrites : Prop :=
  ∀ (d x y : Byte) (s : State) (i : Instr), i ∈ [.wra d, .rsa d, .wrb d, .rsb d] →
    ∃ t, exec i s = .next t ∧
      exec i { s with regs := { s.regs with DDRA := x, DDRB := y } } =
        .next { t with regs := { t.regs with DDRA := x, DDRB := y } }

/-- The frame of the port-A operations: nothing but ORA, the four contributions, their lines and the trace changes (10_state.md
R40; the register view is decision D5). -/
def Obligations.PortAWriteFrame : Prop :=
  ∀ (d : Byte) (s t : State) (i : Instr), (i = .wra d ∨ i = .rsa d) → exec i s = .next t →
    t.cfg = s.cfg ∧ t.atnActive = s.atnActive ∧ t.lines.atn = s.lines.atn ∧ t.others = s.others ∧
    t.regs.DDRA = s.regs.DDRA ∧ t.regs.ORB = s.regs.ORB ∧ t.regs.DDRB = s.regs.DDRB ∧
    t.status = s.status ∧ t.ic = s.ic ∧ t.clk = s.clk ∧ t.inputs = s.inputs ∧ t.returned = s.returned

/-- The frame of the port-B operations: nothing but ORB, the status fields and the trace changes; no bus line is published
(R112, R113, R40; the register view is decision D5). -/
def Obligations.PortBWriteFrame : Prop :=
  ∀ (d : Byte) (s t : State) (i : Instr), (i = .wrb d ∨ i = .rsb d) → exec i s = .next t →
    t.cfg = s.cfg ∧ t.atnActive = s.atnActive ∧ t.outs = s.outs ∧ t.lines = s.lines ∧ t.others = s.others ∧
    t.regs.ORA = s.regs.ORA ∧ t.regs.DDRA = s.regs.DDRA ∧ t.regs.DDRB = s.regs.DDRB ∧
    t.ic = s.ic ∧ t.clk = s.clk ∧ t.inputs = s.inputs ∧ t.returned = s.returned

/-! ## Port reads (43_port_read.md) -/

/-- RDA (R130): its word, that it completes and writes no state, and every bit of the byte it returns. -/
def Obligations.PortAReadReturnsLinesAndLatch : Prop :=
  decode 0b0101000000000000 = .ok .rda ∧
  ∀ s : State, ∃ v : Byte, exec .rda s = .next { s with returned := s.returned ++ [v] } ∧
    ∀ k, k < 8 → v.getLsbD k =
      if s.regs.DDRA.getLsbD k then s.regs.ORA.getLsbD k
      else if k = 7 then s.lines.atn
      else if k = 6 then !s.lines.dav
      else if k = 5 then !s.lines.eoi
      else true

/-- RDB (R131): its word, that it completes and writes no state, and every bit of the byte it returns. -/
def Obligations.PortBReadReturnsLinesAndAddress : Prop :=
  decode 0b0110000000000000 = .ok .rdb ∧
  ∀ s : State, ∃ v : Byte, exec .rdb s = .next { s with returned := s.returned ++ [v] } ∧
    ∀ k, k < 8 → v.getLsbD k =
      if s.regs.DDRB.getLsbD k then s.regs.ORB.getLsbD k
      else if k = 7 then !s.lines.nrfd
      else if k = 6 then !s.lines.ndac
      else if k = 2 then false
      else if k = 1 then false
      else if k = 0 then decide (s.cfg.unit ≠ .u0)
      else true

/-- MERGE (R132): the formula, bit by bit, and its use by both reads alike. -/
def Obligations.MergeSelectsByDirection : Prop :=
  (∀ synth latch dir : Byte, merge synth latch dir = (synth &&& ~~~dir) ||| (latch &&& dir)) ∧
  (∀ (synth latch dir : Byte) (k : Nat), k < 8 →
    (dir.getLsbD k = true → (merge synth latch dir).getLsbD k = latch.getLsbD k) ∧
    (dir.getLsbD k = false → (merge synth latch dir).getLsbD k = synth.getLsbD k)) ∧
  ∀ s : State,
    exec .rda s = .next { s with returned := s.returned ++ [merge (synthPortA s.lines) s.regs.ORA s.regs.DDRA] } ∧
    exec .rdb s =
      .next { s with returned := s.returned ++ [merge (synthPortB s.cfg.unit s.lines) s.regs.ORB s.regs.DDRB] }

/-- Both reads write no state and emit no event, and the byte is a function of the bus lines, the register view and, for RDB,
the unit (R133; 20_memory.md R54). -/
def Obligations.ReadsMutateNothing : Prop :=
  ∀ (s : State) (i : Instr), (i = .rda ∨ i = .rdb) →
    ∃ v : Byte, exec i s = .next { s with returned := s.returned ++ [v] } ∧
      ∀ u : State, u.lines = s.lines → u.regs = s.regs → (i = .rdb → u.cfg.unit = s.cfg.unit) →
        exec i u = .next { u with returned := u.returned ++ [v] }

/-! ## Reset (70_reset_and_hazards.md) -/

/-- RST: the whole next state (R170, R171). The Chip Core's reset of its registers is decision D5, the status value D8, its
target D9, the order D12; the closed forms of NRFD and NDAC are the spec's inference in R171. That the four lines are
formed anew is 10_state.md R28 under decision D4, from the list of log 5; a write to a `status[1]` that does not exist has no effect
(log 9). -/
def Obligations.ResetOperationResult : Prop :=
  ∀ s : State,
    let PA := s.cfg.coreReset.ORA
    let nrfd := PA.getLsbD 0 || !PA.getLsbD 2
    let ndac := PA.getLsbD 1
    exec .rst s = .next { s with
      atnActive := false
      regs := s.cfg.coreReset
      outs := { nrfd := nrfd, ndac := ndac, eoi := false, dav := false }
      lines :=
        { atn := s.lines.atn
          dav := lineValue s.cfg.combine s.cfg.self .dav false s.others
          eoi := lineValue s.cfg.combine s.cfg.self .eoi false s.others
          nrfd := lineValue s.cfg.combine s.cfg.self .nrfd nrfd s.others
          ndac := lineValue s.cfg.combine s.cfg.self .ndac ndac s.others }
      status :=
        match s.cfg.unit with
        | .u0 => { slot0 := 3, slot1 := s.status.slot1 }
        | .u1 => { slot0 := s.status.slot0, slot1 := s.status.slot1.map fun _ => 3 }
      events := s.events ++
        [.setDAV false, .setEOI false, .setNRFD nrfd, .setNDAC ndac, .status s.cfg.unit 3] }

/-- Reset is idempotent and repeatable, its result does not depend on the earlier state but for what it does not touch (the
other slot's status, whether a `status[1]` exists, the IC state, the ATN line, the other adapters' contributions), and it registers
and unregisters nothing (R172). An all-input read of port A after it shows the ATN line, and DAV and EOI as the bus forms them from
this adapter's deasserted contributions; in SOLO (decision D4) that is FF or 7F, the instance of 95_test_vectors.md W6. The reset of
the Chip Core's registers is decision D5; the model's choices are the list of contributions (log 5), SOLO as a configuration value
(log 6), and that the reset of an adapter whose `status[1]` does not exist leaves it absent (log 9). -/
def Obligations.ResetIgnoresTheEarlierState : Prop :=
  ∀ s u : State, s.cfg = u.cfg → s.lines.atn = u.lines.atn → s.others = u.others → s.ic = u.ic →
    (s.cfg.unit = .u0 → s.status.slot1 = u.status.slot1) →
    (s.cfg.unit = .u1 → s.status.slot0 = u.status.slot0 ∧ s.status.slot1.isSome = u.status.slot1.isSome) →
    ∃ t v again r new, exec .rst s = .next t ∧ exec .rst u = .next v ∧ t.arch = v.arch ∧
      exec .rst t = .next again ∧ again.arch = t.arch ∧
      t.cfg = s.cfg ∧ t.events = s.events ++ new ∧ (∀ n, .registerSource n ∉ new) ∧
      exec .rda t = .next r ∧
      (s.cfg.coreReset.DDRA = 0 →
        ∃ byte : Byte, r.returned = t.returned ++ [byte] ∧
          (∀ k, k < 8 → byte.getLsbD k =
            if k = 7 then s.lines.atn
            else if k = 6 then !lineValue s.cfg.combine s.cfg.self .dav false s.others
            else if k = 5 then !lineValue s.cfg.combine s.cfg.self .eoi false s.others
            else true) ∧
          (s.cfg.combine = .solo → byte = if s.lines.atn then 0xFF else 0x7F))

/-- The frame of RST (R171, R40): what it leaves alone. The other slot's status is decision D9. -/
def Obligations.ResetFrame : Prop :=
  ∀ s t : State, exec .rst s = .next t →
    t.cfg = s.cfg ∧ t.lines.atn = s.lines.atn ∧ t.others = s.others ∧ t.ic = s.ic ∧ t.clk = s.clk ∧
    t.inputs = s.inputs ∧ t.returned = s.returned ∧
    (s.cfg.unit = .u0 → t.status.slot1 = s.status.slot1) ∧ (s.cfg.unit = .u1 → t.status.slot0 = s.status.slot0)

/-- What R171 gives after reset holds of the model's reset state, for every value of the open parameters (log 8). Decisions D5, D8;
the status field of unit 1 only where it exists (10_state.md R34). -/
def Obligations.ResetStateValues : Prop :=
  let s := State.reset
  s.atnActive = false ∧ s.outs.dav = false ∧ s.outs.eoi = false ∧
  s.outs.nrfd = (s.cfg.coreReset.ORA.getLsbD 0 || !s.cfg.coreReset.ORA.getLsbD 2) ∧
  s.outs.ndac = s.cfg.coreReset.ORA.getLsbD 1 ∧
  s.regs = s.cfg.coreReset ∧
  ((s.cfg.unit = .u0 ∨ s.cfg.slot1 = true) → getSlot s.status s.cfg.unit = some 3)

/-- Construction of any well-formed configuration followed by RST leaves, from whatever construction values, what R171 gives (R173,
R174; decisions D5, D7, D8, D9) wherever the status field it names exists: `status[1]` exists only with P_SLOT1 (10_state.md R34).
For a unit-1 adapter without P_SLOT1 R171 writes 3 to a field that does not exist; that this write has no effect, so that
the field stays absent, is the model's choice (log 9). The model's reset state is that of its own open parameters, traces
apart (log 8; the contributions of others and the shared bus at reset are log 5). -/
def Obligations.ResetStateIsConstructionThenRst : Prop :=
  (∀ (raw : RawConfig) (init : InitValues), raw.wf = true →
    ∃ s t, construct raw init = .next s ∧ exec .rst s = .next t ∧
      t.atnActive = false ∧ t.outs.dav = false ∧ t.outs.eoi = false ∧
      t.outs.nrfd = (raw.coreReset.ORA.getLsbD 0 || !raw.coreReset.ORA.getLsbD 2) ∧
      t.outs.ndac = raw.coreReset.ORA.getLsbD 1 ∧ t.regs = raw.coreReset ∧ t.linesFormed ∧ t.lines.atn = s.lines.atn ∧
      t.ic = init.ic ∧
      (raw.unit = 0 → t.status = { slot0 := 3, slot1 := if raw.slot1 then some init.status1 else none }) ∧
      (raw.unit = 1 → t.status = { slot0 := init.status0, slot1 := if raw.slot1 then some 3 else none })) ∧
  ∃ s t, construct Config.raw Config.initValues = .next s ∧ exec .rst s = .next t ∧ t.arch = State.reset.arch

/-- After a reset while ATN stays asserted the next ATN 1 signals RISE although the line never changed, and the reset itself
signals no edge (R176, which the spec derives). -/
def Obligations.ResetWhileAtnSignalsRise : Prop :=
  ∀ s : State, s.cfg.legacy = true → s.lines.atn = true →
    ∃ t u, exec .rst s = .next t ∧ exec (.atn true) t = .next u ∧
      t.atnActive = false ∧ t.lines.atn = true ∧ u.lines.atn = true ∧
      edgesOf t.events = edgesOf s.events ∧ edgesOf u.events = edgesOf t.events ++ [.rise]

/-! ## The ATN edge detector (41_atn_edge.md) -/

/-- ATN b on a non-legacy adapter (R100): its words, and that it does nothing. -/
def Obligations.NonLegacyAtnDoesNothing : Prop :=
  decode 0b1000000000000000 = .ok (.atn false) ∧ decode 0b1000000100000000 = .ok (.atn true) ∧
  ∀ (b : Bool) (s : State), s.cfg.legacy = false → exec (.atn b) s = .next s

/-- ATN b on a legacy adapter: the whole next state (R101). Running the sibling request and DERIVE on every such operation is
decision D11, the order D12. That the two lines are formed anew is 10_state.md R28 under decision D4, from the list of log 5; that
the receiver of the request leaves the others' contributions, and so the lines, as they are in this step is log 13. -/
def Obligations.LegacyAtnTransition : Prop :=
  ∀ (b : Bool) (s : State), s.cfg.legacy = true →
    let p := s.regs.ORA
    let nrfd := !((b == p.getLsbD 0) && p.getLsbD 2)
    let ndac := !(!p.getLsbD 1 && (p.getLsbD 0 || !b))
    let edge : List Event :=
      if s.atnActive = true ∧ b = false then [.signalEdge .fall]
      else if s.atnActive = false ∧ b = true then [.signalEdge .rise]
      else []
    exec (.atn b) s = .next { s with
      atnActive := b
      outs := { s.outs with nrfd := nrfd, ndac := ndac }
      lines := { s.lines with
        nrfd := lineValue s.cfg.combine s.cfg.self .nrfd nrfd s.others
        ndac := lineValue s.cfg.combine s.cfg.self .ndac ndac s.others }
      events := s.events ++ edge ++ [.siblingRederive s.cfg.sibling, .setNRFD nrfd, .setNDAC ndac] }

/-- The latch of a legacy adapter equals the last applied ATN state: an ATN operation sets it, reset clears it, and every step that
runs neither keeps it, whatever it is. After a reset it is false and stays so until the next ATN operation, whatever else happens
and whatever the ATN line holds (10_state.md R24). -/
def Obligations.LatchIsTheLastAppliedAtnState : Prop :=
  (∀ (b : Bool) (s : State), s.cfg.legacy = true → ∃ t, exec (.atn b) s = .next t ∧ t.atnActive = b) ∧
  (∀ s : State, ∃ t, exec .rst s = .next t ∧ t.atnActive = false) ∧
  (∀ s t : State, step s = .next t →
    (∀ w clk rest i, s.inputs = .op w clk :: rest → decode w = .ok i → i ≠ .rst ∧ ∀ b, i ≠ .atn b) →
    t.atnActive = s.atnActive) ∧
  ∀ s t : State, s.atnActive = false → step s = .next t →
    (∀ w clk rest b, s.inputs = .op w clk :: rest → decode w ≠ .ok (.atn b)) → t.atnActive = false

/-- The strict edge detector (R102): over any sequence of ATN operations on a legacy adapter the edge events added are as many
as the positions where the argument differs from the latch value before it, the first compared with the latch before the
sequence; one operation signals an event iff its argument differs. -/
def Obligations.EdgeEventsCountTheChanges : Prop :=
  (∀ (b : Bool) (s : State), s.cfg.legacy = true → ∃ t, exec (.atn b) s = .next t ∧
    edgesOf t.events = edgesOf s.events ++
      (if b = s.atnActive then [] else if b then [.rise] else [.fall])) ∧
  ∀ (bs : List Bool) (s : State), s.cfg.legacy = true →
    ∃ t, execAll (bs.map Instr.atn) s = .next t ∧
      (edgesOf t.events).length =
        (edgesOf s.events).length + ((s.atnActive :: bs).zip bs).countP (fun p => p.1 != p.2)

/-- The worked sequence of the source with its premise made explicit (95_test_vectors.md W3, V6; 90_conflicts.md C2). -/
def Obligations.SourceSequenceOfAtnStates : Prop :=
  ∀ s : State, ∃ t, execAll [.atn true, .atn true, .atn false, .atn false, .atn true] s = .next t ∧
    (s.cfg.legacy = true → s.atnActive = true → edgesOf t.events = edgesOf s.events ++ [.fall, .rise]) ∧
    (s.cfg.legacy = true → s.atnActive = false → edgesOf t.events = edgesOf s.events ++ [.rise, .fall, .rise]) ∧
    (s.cfg.legacy = false → t = s)

/-- An ATN operation that does not change the latch of a legacy adapter signals no edge and moves no line, on a shared bus or in
SOLO, where the contributions were derived and the NRFD and NDAC lines formed from them (R101, R92; decisions D4, D11; the list of
contributions is log 5, SOLO as a configuration value log 6). -/
def Obligations.RepeatedAtnMovesNoLine : Prop :=
  ∀ s : State, s.cfg.legacy = true → s.handshakeDerived →
    ∃ t, exec (.atn s.atnActive) s = .next t ∧ t.outs = s.outs ∧ t.atnActive = s.atnActive ∧
      edgesOf t.events = edgesOf s.events ∧
      (s.lines.nrfd = s.busValue .nrfd s.outs.nrfd → s.lines.ndac = s.busValue .ndac s.outs.ndac → t.lines = s.lines)

/-- The frame of ATN b: what it leaves alone in either kind of adapter (R100, R101, 10_state.md R40). That the receiver
of a sibling request, whose effect R104 leaves outside the block, leaves the others' contributions and the lines as they are in this
step is the model's choice (log 13). -/
def Obligations.AtnFrame : Prop :=
  ∀ (b : Bool) (s t : State), exec (.atn b) s = .next t →
    t.cfg = s.cfg ∧ t.outs.eoi = s.outs.eoi ∧ t.outs.dav = s.outs.dav ∧
    t.lines.atn = s.lines.atn ∧ t.lines.eoi = s.lines.eoi ∧ t.lines.dav = s.lines.dav ∧
    t.others = s.others ∧ t.regs = s.regs ∧ t.status = s.status ∧ t.ic = s.ic ∧ t.clk = s.clk ∧
    t.inputs = s.inputs ∧ t.returned = s.returned

/-- The ATN delivery hazard (70_reset_and_hazards.md R177, which the spec derives): a change of the line alone changes that line
value and nothing else in the whole state; a port-A read shows it at once in bit 7, where that is an input, and in no other bit, and
a port-B read returns what it returned before. -/
def Obligations.AtnLineAloneReachesOnlyReads : Prop :=
  ∀ (b : Bool) (s : State) (rest : List Input), s.inputs = .env (.atnLine b) :: rest →
    let t : State := { s with inputs := rest, lines := { s.lines with atn := b } }
    step s = .next t ∧
    ∃ before v w : Byte,
      exec .rda s = .next { s with returned := s.returned ++ [before] } ∧
      exec .rda t = .next { t with returned := t.returned ++ [v] } ∧
      (s.regs.DDRA.getLsbD 7 = false → v.getLsbD 7 = b) ∧ (s.regs.DDRA.getLsbD 7 = true → v.getLsbD 7 = before.getLsbD 7) ∧
      (∀ k, k < 7 → v.getLsbD k = before.getLsbD k) ∧
      exec .rdb s = .next { s with returned := s.returned ++ [w] } ∧
      exec .rdb t = .next { t with returned := t.returned ++ [w] }

/-! ## Interrupt routing (45_interrupt_routing.md) -/

/-- IRQ b @clk: the whole next state (R140). The meaning of b and what a repeated assert does are decision D14. -/
def Obligations.InterruptSetForwards : Prop :=
  ∀ s : State,
    exec (.irq true) s = .next { s with
      ic := { level := true, clk := s.clk }
      events := s.events ++ [.icAssert s.cfg.source s.cfg.irqKind s.clk] } ∧
    exec (.irq false) s = .next { s with
      ic := { level := false, clk := s.ic.clk }
      events := s.events ++ [.icDeassert s.cfg.source s.cfg.irqKind] }

/-- IRR b: the whole next state (R141). The call and that it takes no clock are decision D14. -/
def Obligations.InterruptRestoreForwards : Prop :=
  ∀ (b : Bool) (s : State),
    exec (.irr b) s = .next { s with
      ic := { level := b, clk := s.ic.clk }
      events := s.events ++ [.icRestore s.cfg.source b] }

/-- The clock an IRQ passes on is the side input delivered with its word (30_encoding.md R73; decisions D2, D22). -/
def Obligations.InterruptClockIsTheDeliveredOne : Prop :=
  ∀ (s : State) (clk : Nat) (rest : List Input), s.inputs = .op 0x9100 clk :: rest →
    ∃ t, step s = .next t ∧ t.ic = { level := true, clk := clk } ∧ t.inputs = rest ∧
      t.events = s.events ++ [.icAssert s.cfg.source s.cfg.irqKind clk]

/-- The source id (R142): construction registers exactly once and takes the answer, every call an operation makes of the
Interrupt Controller names it, and no operation registers again or changes it. That the answer is one opaque function of the name is
the model's choice (log 18). -/
def Obligations.SourceIdIsRegisteredOnce : Prop :=
  (∀ (raw : RawConfig) (init : InitValues) (s : State), construct raw init = .next s →
    s.events = [.registerSource raw.sourceName] ∧ s.cfg.source = Config.registerSource raw.sourceName) ∧
  ∀ (i : Instr) (s t : State), exec i s = .next t →
    t.cfg.source = s.cfg.source ∧
    ∃ new, t.events = s.events ++ new ∧ (∀ n, .registerSource n ∉ new) ∧ ∀ x ∈ icSourcesOf new, x = s.cfg.source

/-- The frame of the interrupt operations: no flag, line, register, status or configuration changes (R140, R141; decision D14). -/
def Obligations.InterruptFrame : Prop :=
  ∀ (b : Bool) (s t : State) (i : Instr), (i = .irq b ∨ i = .irr b) → exec i s = .next t →
    t.cfg = s.cfg ∧ t.atnActive = s.atnActive ∧ t.outs = s.outs ∧ t.lines = s.lines ∧ t.others = s.others ∧
    t.regs = s.regs ∧ t.status = s.status ∧ t.clk = s.clk ∧ t.inputs = s.inputs ∧ t.returned = s.returned

/-! ## The whole machine -/

/-- Every operation completes, in every state and for every operand (60_exceptions.md R150). -/
def Obligations.EveryOperationCompletes : Prop :=
  ∀ (i : Instr) (s : State), ∃ t, exec i s = .next t

/-- A machine whose waiting inputs are encoded operations and collaborator steps never stops: `k` steps are taken for every `k`, from
every state (60_exceptions.md R150, R151; the encoding is decision D2, the list of inputs log 1). That the collaborator steps complete
in SOLO too, contributions of others and `!BUS` among them, is the model's choice (log 6). -/
def Obligations.EncodedOperationsRunWithoutStop : Prop :=
  ∀ s : State, (∀ x ∈ s.inputs, (∃ e, x = .env e) ∨ ∃ i clk, x = inputOf i clk) → ∀ k, SafeRun k s

/-- Only a legacy ATN operation and reset write the latch (10_state.md R23; 90_conflicts.md C7). -/
def Obligations.OnlyAtnAndResetWriteTheLatch : Prop :=
  (∀ s : State, ∃ t, exec .rst s = .next t ∧ t.atnActive = false) ∧
  (∀ (b : Bool) (s : State), s.cfg.legacy = true → ∃ t, exec (.atn b) s = .next t ∧ t.atnActive = b) ∧
  ∀ (i : Instr) (s t : State), exec i s = .next t → t.atnActive ≠ s.atnActive →
    i = .rst ∨ (s.cfg.legacy = true ∧ ∃ b, i = .atn b)

/-- NRFD and NDAC are written only by port-A writes and restores, legacy ATN operations and reset; EOI and DAV only by port-A
writes and restores and reset (10_state.md R26; decision D3 for what a contribution is). -/
def Obligations.OutputLinesHaveTheseWritersOnly : Prop :=
  ∀ (i : Instr) (s t : State), exec i s = .next t →
    ((t.outs.nrfd ≠ s.outs.nrfd ∨ t.outs.ndac ≠ s.outs.ndac) →
      i = .rst ∨ (∃ d, i = .wra d ∨ i = .rsa d) ∨ (s.cfg.legacy = true ∧ ∃ b, i = .atn b)) ∧
    ((t.outs.eoi ≠ s.outs.eoi ∨ t.outs.dav ≠ s.outs.dav) →
      i = .rst ∨ ∃ d, i = .wra d ∨ i = .rsa d)

/-- No operation drives the ATN line, changes what other adapters contribute, or consumes an input; no step changes the
configuration (10_state.md R22, R27, of which R27 is the spec's inference; 00_scope.md R8). For a legacy ATN, that the receiver of the
sibling request changes nothing of this in its step is the model's choice (log 13). -/
def Obligations.ConfigurationAndAtnLineAreNotWritten : Prop :=
  (∀ (i : Instr) (s t : State), exec i s = .next t →
    t.lines.atn = s.lines.atn ∧ t.others = s.others ∧ t.inputs = s.inputs ∧ t.clk = s.clk) ∧
  ∀ s t : State, step s = .next t → t.cfg = s.cfg

/-- One operation signals at most one edge event and never both signals an edge and calls the Interrupt Controller
(60_exceptions.md R154; decision D13). -/
def Obligations.AtMostOneEdgeAndNoInterruptCallBesideIt : Prop :=
  ∀ (i : Instr) (s t : State), exec i s = .next t →
    ∃ new, t.events = s.events ++ new ∧ (edgesOf new).length ≤ 1 ∧ (edgesOf new = [] ∨ icSourcesOf new = [])

/-- Edge events and sibling requests come from the legacy ATN operation alone, and an edge only where its argument differs from
the latch (41_atn_edge.md R100, R104; 60_exceptions.md R153, which the spec derives; decision D11). -/
def Obligations.EdgesAndSiblingRequestsOnlyFromLegacyAtn : Prop :=
  ∀ (i : Instr) (s t : State), exec i s = .next t →
    ∃ new, t.events = s.events ++ new ∧
      (edgesOf new ≠ [] → s.cfg.legacy = true ∧ ∃ b, i = .atn b ∧ b ≠ s.atnActive) ∧
      (∀ a, .siblingRederive a ∈ new → a = s.cfg.sibling ∧ s.cfg.legacy = true ∧ ∃ b, i = .atn b)

/-- The Chip Core's answer to an edge (41_atn_edge.md R103; 60_exceptions.md R152, R154; decisions D13, D15): if, as a named property
of `P_CORE_EDGE` (93 U3), every RISE is answered with one assert, then an ATN 1 that reaches a legacy adapter with a clear latch can
be answered, and is always followed by an IRQ 1 step that raises the level of source S with the clock of the Chip Core's call. Without
an edge no input is added, and the Chip Core's state stays, which is the model's choice: the spec gives the relation for edges only
(log 12). When an answer is delivered among other inputs is open (log 12). -/
def Obligations.InterruptFollowsEdge : Prop :=
  (∀ (Core : Type) (P : CoreEdge Core) (k : Core) (s : State) (clk : Nat), riseRaisesInterrupt P →
    s.cfg.legacy = true → s.atnActive = false → s.inputs = [.op 0x8100 clk] →
      (∃ k' t, coreStep P k s k' t) ∧
      ∀ k' t, coreStep P k s k' t → ∃ c u, t.inputs = [.op 0x9100 c] ∧ t.ic = s.ic ∧ step t = .next u ∧
        u.ic = { level := true, clk := c } ∧ u.atnActive = true) ∧
  ∀ (Core : Type) (P : CoreEdge Core) (k k' : Core) (s t u : State), step s = .next u → addedEdges s u = [] →
    (coreStep P k s k' t ↔ k' = k ∧ t = u)

/-- The invariant holds at reset. That the configuration is well formed there is the model's choice of `Config.slot1` (00_scope.md R9,
log 21), that the contributions of others are in canonical form and exclude the adapter's own, and that the reset state is on a shared
bus, so that the clause on SOLO asks nothing of it, is log 5; that `status[1]` is there exactly with `P_SLOT1` is 10_state.md R34
(log 9); the rest is what R171 gives. -/
def Obligations.ResetMeetsTheInvariant : Prop := State.reset.Inv

/-- Every step keeps the invariant: the configuration stays well formed (R9), the latch of a non-legacy adapter stays false
(R25), NRFD and NDAC stay what the derivation gives for the last port-A byte and the latch (R90, R91), in SOLO the lines stay the
contributions (R28), `status[1]` exists exactly with `P_SLOT1` (R34), and the other adapters' contributions stay in canonical form
without one of the adapter's own (log 5). The model's choices: in SOLO a `!BUS` step has no effect on the four lines and another
agent's contribution moves none of them (log 6); a write to a `status[1]` that does not exist leaves it absent (log 9). -/
def Obligations.StepKeepsTheInvariant : Prop :=
  ∀ s t : State, s.Inv → step s = .next t → t.Inv

/-! ## Construction and two adapters -/

/-- Construction refuses exactly the ill-formed configurations (00_scope.md R9; decision D16) and otherwise leaves the
construction values it was given, `status[1]` only where `P_SLOT1` says that it exists (70_reset_and_hazards.md R173; 10_state.md R34;
decision D7). That the construction values, the register view and the IC state among them, are arguments is the model's choice (log
18). -/
def Obligations.ConstructionRefusesIllFormedConfigurations : Prop :=
  ∀ (raw : RawConfig) (init : InitValues),
    (((raw.unit ≠ 0 ∧ raw.unit ≠ 1) ∨ (raw.unit = 0 ∧ raw.dual = true ∧ raw.slot1 = false)) →
      construct raw init = .refused .illFormedConfig) ∧
    ((raw.unit = 0 ∨ raw.unit = 1) → (raw.unit = 0 → raw.dual = true → raw.slot1 = true) →
      ∃ s, construct raw init = .next s ∧ s.cfg.wf = true ∧ s.cfg.unit.toNat = raw.unit ∧
        s.atnActive = init.atnActive ∧ s.outs = init.outs ∧ s.regs = init.regs ∧ s.ic = init.ic ∧
        s.status.slot0 = init.status0 ∧ s.status.slot1 = if raw.slot1 then some init.status1 else none)

/-- Two writers of `status[1]`, where it exists, the dual unit-0 adapter and the unit-1 adapter: the last one in the total order wins
(20_memory.md R60; decision D25; the two-adapter context is log 17). -/
def Obligations.LastWriterOfSecondStatusWins : Prop :=
  ∀ (c : Context) (d e : Byte) (k m : Nat), c.a0.settings.dual = true → c.status.slot1.isSome = true →
    (∃ x y, c.run .u0 (.wrb d) k = .next x ∧ x.run .u1 (.wrb e) m = .next y ∧
      y.status = { slot0 := d.extractLsb' 4 2, slot1 := some (e.extractLsb' 4 2) }) ∧
    (∃ x y, c.run .u1 (.wrb e) m = .next x ∧ x.run .u0 (.wrb d) k = .next y ∧
      y.status =
        { slot0 := d.extractLsb' 4 2, slot1 := some (BitVec.ofBool (d.getLsbD 5) ++ BitVec.ofBool (d.getLsbD 3)) })

/-- An operation word delivered to one adapter leaves all that is the other one's own, the configuration of its own, the ATN line, the
third participants' contributions and the other inputs alone (60_exceptions.md R159; 20_memory.md R60; 10_state.md R27; log 17). R159
excepts the sibling request, whose receiver's effect 41_atn_edge.md R104 leaves outside the block. For a legacy ATN, whose request may
go to the other adapter or to a third participant, that the receiver's part or contributions are unchanged and that no input is
added is the model's choice (log 13). -/
def Obligations.AdaptersShareOnlyBusAndStatus : Prop :=
  ∀ (c x : Context) (u : UnitNo) (w : OpWord) (k : Nat) (rest : List ContextInput), c.inputs = .op u w k :: rest →
    c.step = .next x →
      x.part (otherUnit u) = c.part (otherUnit u) ∧ (x.part u).settings = (c.part u).settings ∧ x.others = c.others ∧
      x.lines.atn = c.lines.atn ∧ x.inputs = rest

/-- A bus write of one adapter, of either unit, is visible to the other at once (20_memory.md R58; decision D4; the list of
contributions is log 5, the context log 17): after WRA d each of the four lines is the open function of all contributions as they
then stand, this adapter's new ones and the other one's among them, and the other adapter's next reads show these line values, and
its own unit number as the address bit, where their port bits are inputs. The two contribute under their unit numbers, so the
contributions of both are there (60_exceptions.md R159). -/
def Obligations.BusWriteIsVisibleAtOnce : Prop :=
  ∀ (c : Context) (u : UnitNo) (d : Byte) (k : Nat),
    let p := c.part u
    let q := c.part (otherUnit u)
    let nrfd := !((p.atnActive == d.getLsbD 0) && d.getLsbD 2)
    let ndac := !(!d.getLsbD 1 && (d.getLsbD 0 || !p.atnActive))
    let new : Outputs := { nrfd := nrfd, ndac := ndac, eoi := !d.getLsbD 3, dav := !d.getLsbD 4 }
    let all := recordOutputs (.unit u) new (recordOutputs (.unit (otherUnit u)) q.outs c.others)
    ∃ x y z v w, c.run u (.wra d) k = .next x ∧
      x.lines =
        { atn := c.lines.atn
          dav := Config.busCombine .dav (contributionsTo .dav all)
          eoi := Config.busCombine .eoi (contributionsTo .eoi all)
          nrfd := Config.busCombine .nrfd (contributionsTo .nrfd all)
          ndac := Config.busCombine .ndac (contributionsTo .ndac all) } ∧
      (∀ line b, outputTo new line = some b → (.unit u, b) ∈ contributionsTo line all) ∧
      (∀ line b, outputTo q.outs line = some b → (.unit (otherUnit u), b) ∈ contributionsTo line all) ∧
      x.run (otherUnit u) .rda k = .next y ∧ (y.part (otherUnit u)).returned = q.returned ++ [v] ∧
      (q.regs.DDRA.getLsbD 6 = false → v.getLsbD 6 = !x.lines.dav) ∧
      (q.regs.DDRA.getLsbD 5 = false → v.getLsbD 5 = !x.lines.eoi) ∧
      x.run (otherUnit u) .rdb k = .next z ∧ (z.part (otherUnit u)).returned = q.returned ++ [w] ∧
      (q.regs.DDRB.getLsbD 7 = false → w.getLsbD 7 = !x.lines.nrfd) ∧
      (q.regs.DDRB.getLsbD 6 = false → w.getLsbD 6 = !x.lines.ndac) ∧
      (q.regs.DDRB.getLsbD 0 = false → w.getLsbD 0 = decide (otherUnit u ≠ .u0))

/-- A change of the bus ATN line reaches both adapters of a context, whichever it is delivered to first, which the spec leaves open:
the line value is the new one, the latch of a legacy adapter follows it and the latch of a non-legacy one stays (30_encoding.md R77;
decision D29; log 17). That a sibling request sent on the way adds no step and no input of its receiver is the model's choice (log 13). -/
def Obligations.AtnChangeReachesBothAdapters : Prop :=
  ∀ (c : Context) (b : Bool) (first : UnitNo) (k m : Nat) (rest : List ContextInput),
    c.inputs = atnInputs b first k m ++ rest →
      ∃ x, c.steps 4 = .next x ∧ x.inputs = rest ∧ x.lines.atn = b ∧
        ∀ u, (x.part u).atnActive = if (c.part u).settings.legacy then b else (c.part u).atnActive
end

