-- ==== Sys2Proof/Laws/Bus.lean ====
section
/-! SUPPORT. The canonical list of contributions: what recording does to it, and that its order does not depend on who is asked. -/

namespace Sys2Proof.Machine

/-- An index names its agent. -/
theorem agentIndex_inj {a b : BusAgent} (h : agentIndex a = agentIndex b) : a = b := by
  rcases a with (_ | _) | ⟨⟨x⟩⟩ <;> rcases b with (_ | _) | ⟨⟨y⟩⟩ <;> simp [agentIndex] at h ⊢ <;> omega

/-- A key names its agent and its line. -/
theorem contributionKey_inj {a b : BusAgent} {l m : BusLine} (h : contributionKey a l = contributionKey b m) :
    a = b ∧ l = m := by
  have hl : lineIndex l < 5 := by cases l <;> decide
  have hm : lineIndex m < 5 := by cases m <;> decide
  unfold contributionKey at h
  refine ⟨agentIndex_inj (by omega), ?_⟩
  have hlm : lineIndex l = lineIndex m := by omega
  cases l <;> cases m <;> simp [lineIndex] at hlm ⊢

/-- Entries with one key are contributions of one agent to one line. -/
theorem entryKey_inj {c e : Contribution} (h : entryKey c = entryKey e) : c.agent = e.agent ∧ c.line = e.line :=
  contributionKey_inj h

/-- An entry that the list has after a recording is the new one or was there. -/
theorem mem_recordEntry {e x : Contribution} {cs : List Contribution} (h : x ∈ recordEntry e cs) : x = e ∨ x ∈ cs := by
  induction cs with
  | nil => simpa [recordEntry] using h
  | cons c cs ih =>
    unfold recordEntry at h
    split at h
    · simpa using h
    · split at h
      · rcases List.mem_cons.1 h with h | h
        · exact .inl h
        · exact .inr (List.mem_cons_of_mem _ h)
      · rcases List.mem_cons.1 h with h | h
        · exact .inr (h ▸ List.mem_cons_self)
        · exact (ih h).imp id (List.mem_cons_of_mem _)

/-- Recording keeps the canonical form. -/
theorem recordEntry_ordered (e : Contribution) (cs : List Contribution) (h : contributionsOrdered cs = true) :
    contributionsOrdered (recordEntry e cs) = true := by
  induction cs with
  | nil => rfl
  | cons c cs ih =>
    have h' := h
    simp only [contributionsOrdered, Bool.and_eq_true, List.all_eq_true, decide_eq_true_eq] at h'
    unfold recordEntry
    split
    · rename_i hlt
      simp only [contributionsOrdered, Bool.and_eq_true, List.all_eq_true, decide_eq_true_eq, List.mem_cons]
      refine ⟨?_, h'⟩
      rintro x (rfl | hx)
      · exact hlt
      · exact hlt.trans (h'.1 x hx)
    · split
      · rename_i heq
        simp only [contributionsOrdered, Bool.and_eq_true, List.all_eq_true, decide_eq_true_eq]
        exact ⟨fun x hx => heq ▸ h'.1 x hx, h'.2⟩
      · rename_i hlt heq
        simp only [contributionsOrdered, Bool.and_eq_true, List.all_eq_true, decide_eq_true_eq]
        refine ⟨fun x hx => ?_, ih h'.2⟩
        rcases mem_recordEntry hx with rfl | hx
        · omega
        · exact h'.1 x hx

/-- Recording a contribution keeps the canonical form. -/
theorem recordContribution_ordered (a : BusAgent) (l : BusLine) (v : Bool) (cs : List Contribution)
    (h : contributionsOrdered cs = true) : contributionsOrdered (recordContribution a l v cs) = true :=
  recordEntry_ordered _ cs h

/-- Recording another agent's contribution records none of `self`. -/
theorem recordContribution_foreign {self a : BusAgent} (ha : a ≠ self) (l : BusLine) (v : Bool) (cs : List Contribution)
    (h : contributionsForeign self cs = true) : contributionsForeign self (recordContribution a l v cs) = true := by
  simp only [contributionsForeign, List.all_eq_true, bne_iff_ne] at *
  intro x hx
  rcases mem_recordEntry hx with rfl | hx
  · exact ha
  · exact h x hx

/-- Any list is brought into canonical form. -/
theorem canonicalContributions_ordered (self : BusAgent) (cs : List Contribution) :
    contributionsOrdered (canonicalContributions self cs) = true := by
  unfold canonicalContributions
  induction cs.filter (fun c => c.agent != self) with
  | nil => rfl
  | cons c cs ih => exact recordEntry_ordered c _ ih

/-- A list in canonical form for the others of `self` has no contribution of `self`. -/
theorem canonicalContributions_foreign (self : BusAgent) (cs : List Contribution) :
    contributionsForeign self (canonicalContributions self cs) = true := by
  simp only [contributionsForeign, List.all_eq_true, bne_iff_ne]
  suffices h : ∀ x ∈ canonicalContributions self cs, x ∈ cs.filter (fun c => c.agent != self) by
    intro x hx
    simpa using (List.mem_filter.1 (h x hx)).2
  unfold canonicalContributions
  induction cs.filter (fun c => c.agent != self) with
  | nil => simp
  | cons c cs ih =>
    intro x hx
    rcases mem_recordEntry hx with rfl | hx
    · exact List.mem_cons_self
    · exact List.mem_cons_of_mem _ (ih x hx)

theorem recordEntry_cons_lt {e c : Contribution} (h : entryKey e < entryKey c) (cs : List Contribution) :
    recordEntry e (c :: cs) = e :: c :: cs := by simp [recordEntry, h]

theorem recordEntry_cons_eq {e c : Contribution} (h : entryKey e = entryKey c) (cs : List Contribution) :
    recordEntry e (c :: cs) = e :: cs := by simp [recordEntry, h]

theorem recordEntry_cons_gt {e c : Contribution} (h : entryKey c < entryKey e) (cs : List Contribution) :
    recordEntry e (c :: cs) = c :: recordEntry e cs := by simp [recordEntry, h.not_gt, h.ne']

/-- Contributions of different agents or to different lines can be recorded in either order. -/
theorem recordEntry_comm {e f : Contribution} (h : entryKey e ≠ entryKey f) (cs : List Contribution) :
    recordEntry e (recordEntry f cs) = recordEntry f (recordEntry e cs) := by
  have hnil : ∀ g : Contribution, recordEntry g [] = [g] := fun _ => rfl
  induction cs with
  | nil =>
    rcases lt_or_gt_of_ne h with h | h <;> simp only [hnil, recordEntry_cons_lt, recordEntry_cons_gt, h]
  | cons c cs ih =>
    rcases lt_trichotomy (entryKey e) (entryKey c) with he | he | he <;>
    rcases lt_trichotomy (entryKey f) (entryKey c) with hf | hf | hf <;>
    rcases lt_or_gt_of_ne h with hef | hef <;>
    first
      | omega
      | simp only [recordEntry_cons_lt, recordEntry_cons_eq, recordEntry_cons_gt, he, hf, hef, ih]

/-- A contribution just recorded is among the line's contributions. -/
theorem recordContribution_mem (a : BusAgent) (l : BusLine) (v : Bool) (cs : List Contribution) :
    (a, v) ∈ contributionsTo l (recordContribution a l v cs) := by
  unfold recordContribution
  induction cs with
  | nil => simp [recordEntry, contributionsTo]
  | cons c cs ih =>
    simp only [contributionsTo, List.mem_map, List.mem_filter] at ih ⊢
    obtain ⟨x, ⟨hx, hl⟩, hv⟩ := ih
    unfold recordEntry
    split
    · exact ⟨⟨a, l, v⟩, by simp, rfl⟩
    · split
      · exact ⟨⟨a, l, v⟩, by simp, rfl⟩
      · exact ⟨x, ⟨List.mem_cons_of_mem _ hx, hl⟩, hv⟩

/-- A contribution to one line leaves the contributions to every other line alone. -/
theorem contributionsTo_recordContribution_of_ne {l m : BusLine} (h : l ≠ m) (a : BusAgent) (v : Bool)
    (cs : List Contribution) : contributionsTo m (recordContribution a l v cs) = contributionsTo m cs := by
  unfold recordContribution
  induction cs with
  | nil => simp [recordEntry, contributionsTo, h]
  | cons c cs ih =>
    unfold recordEntry
    split
    · simp [contributionsTo, h]
    · split
      · rename_i heq
        simp [contributionsTo, h, ← (entryKey_inj heq).2]
      · simp only [contributionsTo, List.filter_cons] at ih ⊢
        split <;> simp [ih]

/-- All contributions to one line do not depend on what another agent contributes to a different line. -/
theorem allContributions_recordContribution_of_ne {l m : BusLine} (h : l ≠ m) (self a : BusAgent) (own v : Bool)
    (cs : List Contribution) :
    allContributions self m own (recordContribution a l v cs) = allContributions self m own cs := by
  have hk : entryKey ⟨self, m, own⟩ ≠ entryKey ⟨a, l, v⟩ := fun hk => h (entryKey_inj hk).2.symm
  simp only [allContributions, recordContribution, recordEntry_comm hk]
  exact contributionsTo_recordContribution_of_ne h a v _

/-- The same, of contributions in any order of agents. -/
theorem recordContribution_comm {a b : BusAgent} (h : a ≠ b) (l m : BusLine) (v w : Bool) (cs : List Contribution) :
    recordContribution a l v (recordContribution b m w cs) = recordContribution b m w (recordContribution a l v cs) :=
  recordEntry_comm (fun hk => h (entryKey_inj hk).1) cs

/-- The outputs of two adapters can be recorded in either order. -/
theorem recordOutputs_comm {a b : BusAgent} (h : a ≠ b) (o p : Outputs) (cs : List Contribution) :
    recordOutputs a o (recordOutputs b p cs) = recordOutputs b p (recordOutputs a o cs) := by
  have hrec : ∀ l v ds, recordOutputs a o (recordContribution b l v ds) = recordContribution b l v (recordOutputs a o ds) := by
    intro l v ds
    simp only [recordOutputs, recordContribution_comm h]
  simp only [recordOutputs.eq_1 b, hrec]

/-- What an adapter's four outputs add to the contributions to one of the lines is its output to that line. -/
theorem contributionsTo_recordOutputs {line : BusLine} {v : Bool} {outs : Outputs} (h : outputTo outs line = some v)
    (a : BusAgent) (cs : List Contribution) :
    contributionsTo line (recordOutputs a outs cs) = allContributions a line v cs := by
  cases line <;> simp only [outputTo, Option.some.injEq, reduceCtorEq] at h <;> subst h <;>
    simp only [recordOutputs, contributionsTo_recordContribution_of_ne, ne_eq, reduceCtorEq, not_false_eq_true] <;>
    simp only [← allContributions.eq_1, allContributions_recordContribution_of_ne, ne_eq, reduceCtorEq, not_false_eq_true]

/-- An adapter's outputs are none to ATN. -/
theorem contributionsTo_atn_recordOutputs (a : BusAgent) (outs : Outputs) (cs : List Contribution) :
    contributionsTo .atn (recordOutputs a outs cs) = contributionsTo .atn cs := by
  simp only [recordOutputs, contributionsTo_recordContribution_of_ne, ne_eq, reduceCtorEq, not_false_eq_true]

/-- An adapter's output to a line is among the contributions once its outputs are recorded. -/
theorem recordOutputs_mem {line : BusLine} {v : Bool} {outs : Outputs} (h : outputTo outs line = some v)
    (a : BusAgent) (cs : List Contribution) : (a, v) ∈ contributionsTo line (recordOutputs a outs cs) := by
  rw [contributionsTo_recordOutputs h]
  exact recordContribution_mem a line v cs

end Sys2Proof.Machine
end

