-- ==== Sys2Proof/Laws/State.lean ====
section
/-! SUPPORT. One lemma per field and update of the state, true by definition, so that no later proof unfolds a record update. -/

namespace Sys2Proof.Machine

@[simp] theorem State.emit_cfg (e : Event) (s : State) : (s.emit e).cfg = s.cfg := rfl
@[simp] theorem State.emit_atnActive (e : Event) (s : State) : (s.emit e).atnActive = s.atnActive := rfl
@[simp] theorem State.emit_outs (e : Event) (s : State) : (s.emit e).outs = s.outs := rfl
@[simp] theorem State.emit_lines (e : Event) (s : State) : (s.emit e).lines = s.lines := rfl
@[simp] theorem State.emit_others (e : Event) (s : State) : (s.emit e).others = s.others := rfl
@[simp] theorem State.emit_regs (e : Event) (s : State) : (s.emit e).regs = s.regs := rfl
@[simp] theorem State.emit_status (e : Event) (s : State) : (s.emit e).status = s.status := rfl
@[simp] theorem State.emit_ic (e : Event) (s : State) : (s.emit e).ic = s.ic := rfl
@[simp] theorem State.emit_clk (e : Event) (s : State) : (s.emit e).clk = s.clk := rfl
@[simp] theorem State.emit_inputs (e : Event) (s : State) : (s.emit e).inputs = s.inputs := rfl
@[simp] theorem State.emit_events (e : Event) (s : State) : (s.emit e).events = s.events ++ [e] := rfl
@[simp] theorem State.emit_returned (e : Event) (s : State) : (s.emit e).returned = s.returned := rfl

@[simp] theorem State.reply_cfg (v : Byte) (s : State) : (s.reply v).cfg = s.cfg := rfl
@[simp] theorem State.reply_atnActive (v : Byte) (s : State) : (s.reply v).atnActive = s.atnActive := rfl
@[simp] theorem State.reply_outs (v : Byte) (s : State) : (s.reply v).outs = s.outs := rfl
@[simp] theorem State.reply_lines (v : Byte) (s : State) : (s.reply v).lines = s.lines := rfl
@[simp] theorem State.reply_others (v : Byte) (s : State) : (s.reply v).others = s.others := rfl
@[simp] theorem State.reply_regs (v : Byte) (s : State) : (s.reply v).regs = s.regs := rfl
@[simp] theorem State.reply_status (v : Byte) (s : State) : (s.reply v).status = s.status := rfl
@[simp] theorem State.reply_ic (v : Byte) (s : State) : (s.reply v).ic = s.ic := rfl
@[simp] theorem State.reply_clk (v : Byte) (s : State) : (s.reply v).clk = s.clk := rfl
@[simp] theorem State.reply_inputs (v : Byte) (s : State) : (s.reply v).inputs = s.inputs := rfl
@[simp] theorem State.reply_events (v : Byte) (s : State) : (s.reply v).events = s.events := rfl
@[simp] theorem State.reply_returned (v : Byte) (s : State) : (s.reply v).returned = s.returned ++ [v] := rfl

@[simp] theorem State.setNRFD_cfg (v : Bool) (s : State) : (s.setNRFD v).cfg = s.cfg := rfl
@[simp] theorem State.setNRFD_atnActive (v : Bool) (s : State) : (s.setNRFD v).atnActive = s.atnActive := rfl
@[simp] theorem State.setNRFD_outs (v : Bool) (s : State) : (s.setNRFD v).outs = { s.outs with nrfd := v } := rfl
@[simp] theorem State.setNRFD_lines (v : Bool) (s : State) : (s.setNRFD v).lines = { s.lines with nrfd := s.busValue .nrfd v } := rfl
@[simp] theorem State.setNRFD_others (v : Bool) (s : State) : (s.setNRFD v).others = s.others := rfl
@[simp] theorem State.setNRFD_regs (v : Bool) (s : State) : (s.setNRFD v).regs = s.regs := rfl
@[simp] theorem State.setNRFD_status (v : Bool) (s : State) : (s.setNRFD v).status = s.status := rfl
@[simp] theorem State.setNRFD_ic (v : Bool) (s : State) : (s.setNRFD v).ic = s.ic := rfl
@[simp] theorem State.setNRFD_clk (v : Bool) (s : State) : (s.setNRFD v).clk = s.clk := rfl
@[simp] theorem State.setNRFD_inputs (v : Bool) (s : State) : (s.setNRFD v).inputs = s.inputs := rfl
@[simp] theorem State.setNRFD_events (v : Bool) (s : State) : (s.setNRFD v).events = s.events ++ [.setNRFD v] := rfl
@[simp] theorem State.setNRFD_returned (v : Bool) (s : State) : (s.setNRFD v).returned = s.returned := rfl

@[simp] theorem State.setNDAC_cfg (v : Bool) (s : State) : (s.setNDAC v).cfg = s.cfg := rfl
@[simp] theorem State.setNDAC_atnActive (v : Bool) (s : State) : (s.setNDAC v).atnActive = s.atnActive := rfl
@[simp] theorem State.setNDAC_outs (v : Bool) (s : State) : (s.setNDAC v).outs = { s.outs with ndac := v } := rfl
@[simp] theorem State.setNDAC_lines (v : Bool) (s : State) : (s.setNDAC v).lines = { s.lines with ndac := s.busValue .ndac v } := rfl
@[simp] theorem State.setNDAC_others (v : Bool) (s : State) : (s.setNDAC v).others = s.others := rfl
@[simp] theorem State.setNDAC_regs (v : Bool) (s : State) : (s.setNDAC v).regs = s.regs := rfl
@[simp] theorem State.setNDAC_status (v : Bool) (s : State) : (s.setNDAC v).status = s.status := rfl
@[simp] theorem State.setNDAC_ic (v : Bool) (s : State) : (s.setNDAC v).ic = s.ic := rfl
@[simp] theorem State.setNDAC_clk (v : Bool) (s : State) : (s.setNDAC v).clk = s.clk := rfl
@[simp] theorem State.setNDAC_inputs (v : Bool) (s : State) : (s.setNDAC v).inputs = s.inputs := rfl
@[simp] theorem State.setNDAC_events (v : Bool) (s : State) : (s.setNDAC v).events = s.events ++ [.setNDAC v] := rfl
@[simp] theorem State.setNDAC_returned (v : Bool) (s : State) : (s.setNDAC v).returned = s.returned := rfl

@[simp] theorem State.setEOI_cfg (v : Bool) (s : State) : (s.setEOI v).cfg = s.cfg := rfl
@[simp] theorem State.setEOI_atnActive (v : Bool) (s : State) : (s.setEOI v).atnActive = s.atnActive := rfl
@[simp] theorem State.setEOI_outs (v : Bool) (s : State) : (s.setEOI v).outs = { s.outs with eoi := v } := rfl
@[simp] theorem State.setEOI_lines (v : Bool) (s : State) : (s.setEOI v).lines = { s.lines with eoi := s.busValue .eoi v } := rfl
@[simp] theorem State.setEOI_others (v : Bool) (s : State) : (s.setEOI v).others = s.others := rfl
@[simp] theorem State.setEOI_regs (v : Bool) (s : State) : (s.setEOI v).regs = s.regs := rfl
@[simp] theorem State.setEOI_status (v : Bool) (s : State) : (s.setEOI v).status = s.status := rfl
@[simp] theorem State.setEOI_ic (v : Bool) (s : State) : (s.setEOI v).ic = s.ic := rfl
@[simp] theorem State.setEOI_clk (v : Bool) (s : State) : (s.setEOI v).clk = s.clk := rfl
@[simp] theorem State.setEOI_inputs (v : Bool) (s : State) : (s.setEOI v).inputs = s.inputs := rfl
@[simp] theorem State.setEOI_events (v : Bool) (s : State) : (s.setEOI v).events = s.events ++ [.setEOI v] := rfl
@[simp] theorem State.setEOI_returned (v : Bool) (s : State) : (s.setEOI v).returned = s.returned := rfl

@[simp] theorem State.setDAV_cfg (v : Bool) (s : State) : (s.setDAV v).cfg = s.cfg := rfl
@[simp] theorem State.setDAV_atnActive (v : Bool) (s : State) : (s.setDAV v).atnActive = s.atnActive := rfl
@[simp] theorem State.setDAV_outs (v : Bool) (s : State) : (s.setDAV v).outs = { s.outs with dav := v } := rfl
@[simp] theorem State.setDAV_lines (v : Bool) (s : State) : (s.setDAV v).lines = { s.lines with dav := s.busValue .dav v } := rfl
@[simp] theorem State.setDAV_others (v : Bool) (s : State) : (s.setDAV v).others = s.others := rfl
@[simp] theorem State.setDAV_regs (v : Bool) (s : State) : (s.setDAV v).regs = s.regs := rfl
@[simp] theorem State.setDAV_status (v : Bool) (s : State) : (s.setDAV v).status = s.status := rfl
@[simp] theorem State.setDAV_ic (v : Bool) (s : State) : (s.setDAV v).ic = s.ic := rfl
@[simp] theorem State.setDAV_clk (v : Bool) (s : State) : (s.setDAV v).clk = s.clk := rfl
@[simp] theorem State.setDAV_inputs (v : Bool) (s : State) : (s.setDAV v).inputs = s.inputs := rfl
@[simp] theorem State.setDAV_events (v : Bool) (s : State) : (s.setDAV v).events = s.events ++ [.setDAV v] := rfl
@[simp] theorem State.setDAV_returned (v : Bool) (s : State) : (s.setDAV v).returned = s.returned := rfl

@[simp] theorem State.writeStatus_cfg (u : UnitNo) (v : StatusCode) (s : State) : (s.writeStatus u v).cfg = s.cfg := rfl
@[simp] theorem State.writeStatus_atnActive (u : UnitNo) (v : StatusCode) (s : State) : (s.writeStatus u v).atnActive = s.atnActive := rfl
@[simp] theorem State.writeStatus_outs (u : UnitNo) (v : StatusCode) (s : State) : (s.writeStatus u v).outs = s.outs := rfl
@[simp] theorem State.writeStatus_lines (u : UnitNo) (v : StatusCode) (s : State) : (s.writeStatus u v).lines = s.lines := rfl
@[simp] theorem State.writeStatus_others (u : UnitNo) (v : StatusCode) (s : State) : (s.writeStatus u v).others = s.others := rfl
@[simp] theorem State.writeStatus_regs (u : UnitNo) (v : StatusCode) (s : State) : (s.writeStatus u v).regs = s.regs := rfl
@[simp] theorem State.writeStatus_status (u : UnitNo) (v : StatusCode) (s : State) : (s.writeStatus u v).status = setSlot s.status u v := rfl
@[simp] theorem State.writeStatus_ic (u : UnitNo) (v : StatusCode) (s : State) : (s.writeStatus u v).ic = s.ic := rfl
@[simp] theorem State.writeStatus_clk (u : UnitNo) (v : StatusCode) (s : State) : (s.writeStatus u v).clk = s.clk := rfl
@[simp] theorem State.writeStatus_inputs (u : UnitNo) (v : StatusCode) (s : State) : (s.writeStatus u v).inputs = s.inputs := rfl
@[simp] theorem State.writeStatus_events (u : UnitNo) (v : StatusCode) (s : State) : (s.writeStatus u v).events = s.events ++ [.status u v] := rfl
@[simp] theorem State.writeStatus_returned (u : UnitNo) (v : StatusCode) (s : State) : (s.writeStatus u v).returned = s.returned := rfl

@[simp] theorem State.coreStoreA_cfg (d : Byte) (s : State) : (s.coreStoreA d).cfg = s.cfg := rfl
@[simp] theorem State.coreStoreA_atnActive (d : Byte) (s : State) : (s.coreStoreA d).atnActive = s.atnActive := rfl
@[simp] theorem State.coreStoreA_outs (d : Byte) (s : State) : (s.coreStoreA d).outs = s.outs := rfl
@[simp] theorem State.coreStoreA_lines (d : Byte) (s : State) : (s.coreStoreA d).lines = s.lines := rfl
@[simp] theorem State.coreStoreA_others (d : Byte) (s : State) : (s.coreStoreA d).others = s.others := rfl
@[simp] theorem State.coreStoreA_regs (d : Byte) (s : State) : (s.coreStoreA d).regs = { s.regs with ORA := d } := rfl
@[simp] theorem State.coreStoreA_status (d : Byte) (s : State) : (s.coreStoreA d).status = s.status := rfl
@[simp] theorem State.coreStoreA_ic (d : Byte) (s : State) : (s.coreStoreA d).ic = s.ic := rfl
@[simp] theorem State.coreStoreA_clk (d : Byte) (s : State) : (s.coreStoreA d).clk = s.clk := rfl
@[simp] theorem State.coreStoreA_inputs (d : Byte) (s : State) : (s.coreStoreA d).inputs = s.inputs := rfl
@[simp] theorem State.coreStoreA_events (d : Byte) (s : State) : (s.coreStoreA d).events = s.events := rfl
@[simp] theorem State.coreStoreA_returned (d : Byte) (s : State) : (s.coreStoreA d).returned = s.returned := rfl

@[simp] theorem State.coreStoreB_cfg (d : Byte) (s : State) : (s.coreStoreB d).cfg = s.cfg := rfl
@[simp] theorem State.coreStoreB_atnActive (d : Byte) (s : State) : (s.coreStoreB d).atnActive = s.atnActive := rfl
@[simp] theorem State.coreStoreB_outs (d : Byte) (s : State) : (s.coreStoreB d).outs = s.outs := rfl
@[simp] theorem State.coreStoreB_lines (d : Byte) (s : State) : (s.coreStoreB d).lines = s.lines := rfl
@[simp] theorem State.coreStoreB_others (d : Byte) (s : State) : (s.coreStoreB d).others = s.others := rfl
@[simp] theorem State.coreStoreB_regs (d : Byte) (s : State) : (s.coreStoreB d).regs = { s.regs with ORB := d } := rfl
@[simp] theorem State.coreStoreB_status (d : Byte) (s : State) : (s.coreStoreB d).status = s.status := rfl
@[simp] theorem State.coreStoreB_ic (d : Byte) (s : State) : (s.coreStoreB d).ic = s.ic := rfl
@[simp] theorem State.coreStoreB_clk (d : Byte) (s : State) : (s.coreStoreB d).clk = s.clk := rfl
@[simp] theorem State.coreStoreB_inputs (d : Byte) (s : State) : (s.coreStoreB d).inputs = s.inputs := rfl
@[simp] theorem State.coreStoreB_events (d : Byte) (s : State) : (s.coreStoreB d).events = s.events := rfl
@[simp] theorem State.coreStoreB_returned (d : Byte) (s : State) : (s.coreStoreB d).returned = s.returned := rfl

@[simp] theorem State.coreReset_cfg (s : State) : (s.coreReset).cfg = s.cfg := rfl
@[simp] theorem State.coreReset_atnActive (s : State) : (s.coreReset).atnActive = s.atnActive := rfl
@[simp] theorem State.coreReset_outs (s : State) : (s.coreReset).outs = s.outs := rfl
@[simp] theorem State.coreReset_lines (s : State) : (s.coreReset).lines = s.lines := rfl
@[simp] theorem State.coreReset_others (s : State) : (s.coreReset).others = s.others := rfl
@[simp] theorem State.coreReset_regs (s : State) : (s.coreReset).regs = s.cfg.coreReset := rfl
@[simp] theorem State.coreReset_status (s : State) : (s.coreReset).status = s.status := rfl
@[simp] theorem State.coreReset_ic (s : State) : (s.coreReset).ic = s.ic := rfl
@[simp] theorem State.coreReset_clk (s : State) : (s.coreReset).clk = s.clk := rfl
@[simp] theorem State.coreReset_inputs (s : State) : (s.coreReset).inputs = s.inputs := rfl
@[simp] theorem State.coreReset_events (s : State) : (s.coreReset).events = s.events := rfl
@[simp] theorem State.coreReset_returned (s : State) : (s.coreReset).returned = s.returned := rfl

@[simp] theorem State.icAssert_cfg (c : Nat) (s : State) : (s.icAssert c).cfg = s.cfg := rfl
@[simp] theorem State.icAssert_atnActive (c : Nat) (s : State) : (s.icAssert c).atnActive = s.atnActive := rfl
@[simp] theorem State.icAssert_outs (c : Nat) (s : State) : (s.icAssert c).outs = s.outs := rfl
@[simp] theorem State.icAssert_lines (c : Nat) (s : State) : (s.icAssert c).lines = s.lines := rfl
@[simp] theorem State.icAssert_others (c : Nat) (s : State) : (s.icAssert c).others = s.others := rfl
@[simp] theorem State.icAssert_regs (c : Nat) (s : State) : (s.icAssert c).regs = s.regs := rfl
@[simp] theorem State.icAssert_status (c : Nat) (s : State) : (s.icAssert c).status = s.status := rfl
@[simp] theorem State.icAssert_ic (c : Nat) (s : State) : (s.icAssert c).ic = { level := true, clk := c } := rfl
@[simp] theorem State.icAssert_clk (c : Nat) (s : State) : (s.icAssert c).clk = s.clk := rfl
@[simp] theorem State.icAssert_inputs (c : Nat) (s : State) : (s.icAssert c).inputs = s.inputs := rfl
@[simp] theorem State.icAssert_events (c : Nat) (s : State) : (s.icAssert c).events = s.events ++ [.icAssert s.cfg.source s.cfg.irqKind c] := rfl
@[simp] theorem State.icAssert_returned (c : Nat) (s : State) : (s.icAssert c).returned = s.returned := rfl

@[simp] theorem State.icDeassert_cfg (s : State) : (s.icDeassert).cfg = s.cfg := rfl
@[simp] theorem State.icDeassert_atnActive (s : State) : (s.icDeassert).atnActive = s.atnActive := rfl
@[simp] theorem State.icDeassert_outs (s : State) : (s.icDeassert).outs = s.outs := rfl
@[simp] theorem State.icDeassert_lines (s : State) : (s.icDeassert).lines = s.lines := rfl
@[simp] theorem State.icDeassert_others (s : State) : (s.icDeassert).others = s.others := rfl
@[simp] theorem State.icDeassert_regs (s : State) : (s.icDeassert).regs = s.regs := rfl
@[simp] theorem State.icDeassert_status (s : State) : (s.icDeassert).status = s.status := rfl
@[simp] theorem State.icDeassert_ic (s : State) : (s.icDeassert).ic = { s.ic with level := false } := rfl
@[simp] theorem State.icDeassert_clk (s : State) : (s.icDeassert).clk = s.clk := rfl
@[simp] theorem State.icDeassert_inputs (s : State) : (s.icDeassert).inputs = s.inputs := rfl
@[simp] theorem State.icDeassert_events (s : State) : (s.icDeassert).events = s.events ++ [.icDeassert s.cfg.source s.cfg.irqKind] := rfl
@[simp] theorem State.icDeassert_returned (s : State) : (s.icDeassert).returned = s.returned := rfl

@[simp] theorem State.icRestore_cfg (v : Bool) (s : State) : (s.icRestore v).cfg = s.cfg := rfl
@[simp] theorem State.icRestore_atnActive (v : Bool) (s : State) : (s.icRestore v).atnActive = s.atnActive := rfl
@[simp] theorem State.icRestore_outs (v : Bool) (s : State) : (s.icRestore v).outs = s.outs := rfl
@[simp] theorem State.icRestore_lines (v : Bool) (s : State) : (s.icRestore v).lines = s.lines := rfl
@[simp] theorem State.icRestore_others (v : Bool) (s : State) : (s.icRestore v).others = s.others := rfl
@[simp] theorem State.icRestore_regs (v : Bool) (s : State) : (s.icRestore v).regs = s.regs := rfl
@[simp] theorem State.icRestore_status (v : Bool) (s : State) : (s.icRestore v).status = s.status := rfl
@[simp] theorem State.icRestore_ic (v : Bool) (s : State) : (s.icRestore v).ic = { s.ic with level := v } := rfl
@[simp] theorem State.icRestore_clk (v : Bool) (s : State) : (s.icRestore v).clk = s.clk := rfl
@[simp] theorem State.icRestore_inputs (v : Bool) (s : State) : (s.icRestore v).inputs = s.inputs := rfl
@[simp] theorem State.icRestore_events (v : Bool) (s : State) : (s.icRestore v).events = s.events ++ [.icRestore s.cfg.source v] := rfl
@[simp] theorem State.icRestore_returned (v : Bool) (s : State) : (s.icRestore v).returned = s.returned := rfl

@[simp] theorem State.siblingRederive_cfg (s : State) : (s.siblingRederive).cfg = s.cfg := rfl
@[simp] theorem State.siblingRederive_atnActive (s : State) : (s.siblingRederive).atnActive = s.atnActive := rfl
@[simp] theorem State.siblingRederive_outs (s : State) : (s.siblingRederive).outs = s.outs := rfl
@[simp] theorem State.siblingRederive_lines (s : State) : (s.siblingRederive).lines = s.lines := rfl
@[simp] theorem State.siblingRederive_others (s : State) : (s.siblingRederive).others = s.others := rfl
@[simp] theorem State.siblingRederive_regs (s : State) : (s.siblingRederive).regs = s.regs := rfl
@[simp] theorem State.siblingRederive_status (s : State) : (s.siblingRederive).status = s.status := rfl
@[simp] theorem State.siblingRederive_ic (s : State) : (s.siblingRederive).ic = s.ic := rfl
@[simp] theorem State.siblingRederive_clk (s : State) : (s.siblingRederive).clk = s.clk := rfl
@[simp] theorem State.siblingRederive_inputs (s : State) : (s.siblingRederive).inputs = s.inputs := rfl
@[simp] theorem State.siblingRederive_events (s : State) : (s.siblingRederive).events = s.events ++ [.siblingRederive s.cfg.sibling] := rfl
@[simp] theorem State.siblingRederive_returned (s : State) : (s.siblingRederive).returned = s.returned := rfl

@[simp] theorem State.setAtnActive_cfg (b : Bool) (s : State) : (s.setAtnActive b).cfg = s.cfg := rfl
@[simp] theorem State.setAtnActive_atnActive (b : Bool) (s : State) : (s.setAtnActive b).atnActive = b := rfl
@[simp] theorem State.setAtnActive_outs (b : Bool) (s : State) : (s.setAtnActive b).outs = s.outs := rfl
@[simp] theorem State.setAtnActive_lines (b : Bool) (s : State) : (s.setAtnActive b).lines = s.lines := rfl
@[simp] theorem State.setAtnActive_others (b : Bool) (s : State) : (s.setAtnActive b).others = s.others := rfl
@[simp] theorem State.setAtnActive_regs (b : Bool) (s : State) : (s.setAtnActive b).regs = s.regs := rfl
@[simp] theorem State.setAtnActive_status (b : Bool) (s : State) : (s.setAtnActive b).status = s.status := rfl
@[simp] theorem State.setAtnActive_ic (b : Bool) (s : State) : (s.setAtnActive b).ic = s.ic := rfl
@[simp] theorem State.setAtnActive_clk (b : Bool) (s : State) : (s.setAtnActive b).clk = s.clk := rfl
@[simp] theorem State.setAtnActive_inputs (b : Bool) (s : State) : (s.setAtnActive b).inputs = s.inputs := rfl
@[simp] theorem State.setAtnActive_events (b : Bool) (s : State) : (s.setAtnActive b).events = s.events := rfl
@[simp] theorem State.setAtnActive_returned (b : Bool) (s : State) : (s.setAtnActive b).returned = s.returned := rfl

@[simp] theorem State.driveStatus_cfg (u : UnitNo) (v : StatusCode) (s : State) : (s.driveStatus u v).cfg = s.cfg := rfl
@[simp] theorem State.driveStatus_atnActive (u : UnitNo) (v : StatusCode) (s : State) : (s.driveStatus u v).atnActive = s.atnActive := rfl
@[simp] theorem State.driveStatus_outs (u : UnitNo) (v : StatusCode) (s : State) : (s.driveStatus u v).outs = s.outs := rfl
@[simp] theorem State.driveStatus_lines (u : UnitNo) (v : StatusCode) (s : State) : (s.driveStatus u v).lines = s.lines := rfl
@[simp] theorem State.driveStatus_others (u : UnitNo) (v : StatusCode) (s : State) : (s.driveStatus u v).others = s.others := rfl
@[simp] theorem State.driveStatus_regs (u : UnitNo) (v : StatusCode) (s : State) : (s.driveStatus u v).regs = s.regs := rfl
@[simp] theorem State.driveStatus_status (u : UnitNo) (v : StatusCode) (s : State) : (s.driveStatus u v).status = setSlot s.status u v := rfl
@[simp] theorem State.driveStatus_ic (u : UnitNo) (v : StatusCode) (s : State) : (s.driveStatus u v).ic = s.ic := rfl
@[simp] theorem State.driveStatus_clk (u : UnitNo) (v : StatusCode) (s : State) : (s.driveStatus u v).clk = s.clk := rfl
@[simp] theorem State.driveStatus_inputs (u : UnitNo) (v : StatusCode) (s : State) : (s.driveStatus u v).inputs = s.inputs := rfl
@[simp] theorem State.driveStatus_events (u : UnitNo) (v : StatusCode) (s : State) : (s.driveStatus u v).events = s.events := rfl
@[simp] theorem State.driveStatus_returned (u : UnitNo) (v : StatusCode) (s : State) : (s.driveStatus u v).returned = s.returned := rfl

@[simp] theorem State.teardown_cfg (s : State) : (s.teardown).cfg = s.cfg := rfl
@[simp] theorem State.teardown_atnActive (s : State) : (s.teardown).atnActive = s.atnActive := rfl
@[simp] theorem State.teardown_outs (s : State) : (s.teardown).outs = s.outs := rfl
@[simp] theorem State.teardown_lines (s : State) : (s.teardown).lines = s.lines := rfl
@[simp] theorem State.teardown_others (s : State) : (s.teardown).others = s.others := rfl
@[simp] theorem State.teardown_regs (s : State) : (s.teardown).regs = s.regs := rfl
@[simp] theorem State.teardown_status (s : State) : (s.teardown).status = s.status := rfl
@[simp] theorem State.teardown_ic (s : State) : (s.teardown).ic = s.ic := rfl
@[simp] theorem State.teardown_clk (s : State) : (s.teardown).clk = s.clk := rfl
@[simp] theorem State.teardown_inputs (s : State) : (s.teardown).inputs = [] := rfl
@[simp] theorem State.teardown_events (s : State) : (s.teardown).events = s.events := rfl
@[simp] theorem State.teardown_returned (s : State) : (s.teardown).returned = s.returned := rfl

@[simp] theorem State.deliver_cfg (l : List Input) (c : Nat) (s : State) : (s.deliver l c).cfg = s.cfg := rfl
@[simp] theorem State.deliver_atnActive (l : List Input) (c : Nat) (s : State) : (s.deliver l c).atnActive = s.atnActive := rfl
@[simp] theorem State.deliver_outs (l : List Input) (c : Nat) (s : State) : (s.deliver l c).outs = s.outs := rfl
@[simp] theorem State.deliver_lines (l : List Input) (c : Nat) (s : State) : (s.deliver l c).lines = s.lines := rfl
@[simp] theorem State.deliver_others (l : List Input) (c : Nat) (s : State) : (s.deliver l c).others = s.others := rfl
@[simp] theorem State.deliver_regs (l : List Input) (c : Nat) (s : State) : (s.deliver l c).regs = s.regs := rfl
@[simp] theorem State.deliver_status (l : List Input) (c : Nat) (s : State) : (s.deliver l c).status = s.status := rfl
@[simp] theorem State.deliver_ic (l : List Input) (c : Nat) (s : State) : (s.deliver l c).ic = s.ic := rfl
@[simp] theorem State.deliver_clk (l : List Input) (c : Nat) (s : State) : (s.deliver l c).clk = c := rfl
@[simp] theorem State.deliver_inputs (l : List Input) (c : Nat) (s : State) : (s.deliver l c).inputs = l := rfl
@[simp] theorem State.deliver_events (l : List Input) (c : Nat) (s : State) : (s.deliver l c).events = s.events := rfl
@[simp] theorem State.deliver_returned (l : List Input) (c : Nat) (s : State) : (s.deliver l c).returned = s.returned := rfl

@[simp] theorem State.await_cfg (l : List Input) (s : State) : (s.await l).cfg = s.cfg := rfl
@[simp] theorem State.await_atnActive (l : List Input) (s : State) : (s.await l).atnActive = s.atnActive := rfl
@[simp] theorem State.await_outs (l : List Input) (s : State) : (s.await l).outs = s.outs := rfl
@[simp] theorem State.await_lines (l : List Input) (s : State) : (s.await l).lines = s.lines := rfl
@[simp] theorem State.await_others (l : List Input) (s : State) : (s.await l).others = s.others := rfl
@[simp] theorem State.await_regs (l : List Input) (s : State) : (s.await l).regs = s.regs := rfl
@[simp] theorem State.await_status (l : List Input) (s : State) : (s.await l).status = s.status := rfl
@[simp] theorem State.await_ic (l : List Input) (s : State) : (s.await l).ic = s.ic := rfl
@[simp] theorem State.await_clk (l : List Input) (s : State) : (s.await l).clk = s.clk := rfl
@[simp] theorem State.await_inputs (l : List Input) (s : State) : (s.await l).inputs = l := rfl
@[simp] theorem State.await_events (l : List Input) (s : State) : (s.await l).events = s.events := rfl
@[simp] theorem State.await_returned (l : List Input) (s : State) : (s.await l).returned = s.returned := rfl

@[simp] theorem State.arch_cfg (s : State) : (s.arch).cfg = s.cfg := rfl
@[simp] theorem State.arch_atnActive (s : State) : (s.arch).atnActive = s.atnActive := rfl
@[simp] theorem State.arch_outs (s : State) : (s.arch).outs = s.outs := rfl
@[simp] theorem State.arch_lines (s : State) : (s.arch).lines = s.lines := rfl
@[simp] theorem State.arch_others (s : State) : (s.arch).others = s.others := rfl
@[simp] theorem State.arch_regs (s : State) : (s.arch).regs = s.regs := rfl
@[simp] theorem State.arch_status (s : State) : (s.arch).status = s.status := rfl
@[simp] theorem State.arch_ic (s : State) : (s.arch).ic = s.ic := rfl
@[simp] theorem State.arch_clk (s : State) : (s.arch).clk = 0 := rfl
@[simp] theorem State.arch_inputs (s : State) : (s.arch).inputs = [] := rfl
@[simp] theorem State.arch_events (s : State) : (s.arch).events = [] := rfl
@[simp] theorem State.arch_returned (s : State) : (s.arch).returned = [] := rfl

@[simp] theorem State.setLine_cfg (l : BusLine) (v : Bool) (s : State) : (s.setLine l v).cfg = s.cfg := rfl
@[simp] theorem State.setLine_atnActive (l : BusLine) (v : Bool) (s : State) : (s.setLine l v).atnActive = s.atnActive := rfl
@[simp] theorem State.setLine_outs (l : BusLine) (v : Bool) (s : State) : (s.setLine l v).outs = s.outs := rfl
@[simp] theorem State.setLine_others (l : BusLine) (v : Bool) (s : State) : (s.setLine l v).others = s.others := rfl
@[simp] theorem State.setLine_regs (l : BusLine) (v : Bool) (s : State) : (s.setLine l v).regs = s.regs := rfl
@[simp] theorem State.setLine_status (l : BusLine) (v : Bool) (s : State) : (s.setLine l v).status = s.status := rfl
@[simp] theorem State.setLine_ic (l : BusLine) (v : Bool) (s : State) : (s.setLine l v).ic = s.ic := rfl
@[simp] theorem State.setLine_clk (l : BusLine) (v : Bool) (s : State) : (s.setLine l v).clk = s.clk := rfl
@[simp] theorem State.setLine_inputs (l : BusLine) (v : Bool) (s : State) : (s.setLine l v).inputs = s.inputs := rfl
@[simp] theorem State.setLine_events (l : BusLine) (v : Bool) (s : State) : (s.setLine l v).events = s.events := rfl
@[simp] theorem State.setLine_returned (l : BusLine) (v : Bool) (s : State) : (s.setLine l v).returned = s.returned := rfl

@[simp] theorem State.coreSetDDR_cfg (p : Port) (v : Byte) (s : State) : (s.coreSetDDR p v).cfg = s.cfg := by cases p <;> rfl
@[simp] theorem State.coreSetDDR_atnActive (p : Port) (v : Byte) (s : State) : (s.coreSetDDR p v).atnActive = s.atnActive := by cases p <;> rfl
@[simp] theorem State.coreSetDDR_outs (p : Port) (v : Byte) (s : State) : (s.coreSetDDR p v).outs = s.outs := by cases p <;> rfl
@[simp] theorem State.coreSetDDR_lines (p : Port) (v : Byte) (s : State) : (s.coreSetDDR p v).lines = s.lines := by cases p <;> rfl
@[simp] theorem State.coreSetDDR_others (p : Port) (v : Byte) (s : State) : (s.coreSetDDR p v).others = s.others := by cases p <;> rfl
@[simp] theorem State.coreSetDDR_status (p : Port) (v : Byte) (s : State) : (s.coreSetDDR p v).status = s.status := by cases p <;> rfl
@[simp] theorem State.coreSetDDR_ic (p : Port) (v : Byte) (s : State) : (s.coreSetDDR p v).ic = s.ic := by cases p <;> rfl
@[simp] theorem State.coreSetDDR_clk (p : Port) (v : Byte) (s : State) : (s.coreSetDDR p v).clk = s.clk := by cases p <;> rfl
@[simp] theorem State.coreSetDDR_inputs (p : Port) (v : Byte) (s : State) : (s.coreSetDDR p v).inputs = s.inputs := by cases p <;> rfl
@[simp] theorem State.coreSetDDR_events (p : Port) (v : Byte) (s : State) : (s.coreSetDDR p v).events = s.events := by cases p <;> rfl
@[simp] theorem State.coreSetDDR_returned (p : Port) (v : Byte) (s : State) : (s.coreSetDDR p v).returned = s.returned := by cases p <;> rfl

@[simp] theorem State.signalEdge_cfg (e : Option EdgeKind) (s : State) : (s.signalEdge e).cfg = s.cfg := by cases e <;> rfl
@[simp] theorem State.signalEdge_atnActive (e : Option EdgeKind) (s : State) : (s.signalEdge e).atnActive = s.atnActive := by cases e <;> rfl
@[simp] theorem State.signalEdge_outs (e : Option EdgeKind) (s : State) : (s.signalEdge e).outs = s.outs := by cases e <;> rfl
@[simp] theorem State.signalEdge_lines (e : Option EdgeKind) (s : State) : (s.signalEdge e).lines = s.lines := by cases e <;> rfl
@[simp] theorem State.signalEdge_others (e : Option EdgeKind) (s : State) : (s.signalEdge e).others = s.others := by cases e <;> rfl
@[simp] theorem State.signalEdge_regs (e : Option EdgeKind) (s : State) : (s.signalEdge e).regs = s.regs := by cases e <;> rfl
@[simp] theorem State.signalEdge_status (e : Option EdgeKind) (s : State) : (s.signalEdge e).status = s.status := by cases e <;> rfl
@[simp] theorem State.signalEdge_ic (e : Option EdgeKind) (s : State) : (s.signalEdge e).ic = s.ic := by cases e <;> rfl
@[simp] theorem State.signalEdge_clk (e : Option EdgeKind) (s : State) : (s.signalEdge e).clk = s.clk := by cases e <;> rfl
@[simp] theorem State.signalEdge_inputs (e : Option EdgeKind) (s : State) : (s.signalEdge e).inputs = s.inputs := by cases e <;> rfl
@[simp] theorem State.signalEdge_returned (e : Option EdgeKind) (s : State) : (s.signalEdge e).returned = s.returned := by cases e <;> rfl

@[simp] theorem State.signalEdge_events (e : Option EdgeKind) (s : State) :
    (s.signalEdge e).events = s.events ++ e.toList.map Event.signalEdge := by
  cases e <;> simp [State.signalEdge]

@[simp] theorem State.coreSetDDR_a_regs (v : Byte) (s : State) :
    (s.coreSetDDR .a v).regs = { s.regs with DDRA := v } := rfl

@[simp] theorem State.coreSetDDR_b_regs (v : Byte) (s : State) :
    (s.coreSetDDR .b v).regs = { s.regs with DDRB := v } := rfl

@[simp] theorem State.setLine_lines (l : BusLine) (v : Bool) (s : State) :
    (s.setLine l v).lines = setLineValue s.lines l v := rfl

@[simp] theorem setLineValue_atn (ls : LineValues) (v : Bool) : setLineValue ls .atn v = { ls with atn := v } := rfl
@[simp] theorem setLineValue_dav (ls : LineValues) (v : Bool) : setLineValue ls .dav v = { ls with dav := v } := rfl
@[simp] theorem setLineValue_eoi (ls : LineValues) (v : Bool) : setLineValue ls .eoi v = { ls with eoi := v } := rfl
@[simp] theorem setLineValue_nrfd (ls : LineValues) (v : Bool) : setLineValue ls .nrfd v = { ls with nrfd := v } := rfl
@[simp] theorem setLineValue_ndac (ls : LineValues) (v : Bool) : setLineValue ls .ndac v = { ls with ndac := v } := rfl

@[simp] theorem State.contribute_cfg (a : BusAgent) (l : BusLine) (v : Bool) (s : State) :
    (s.contribute a l v).cfg = s.cfg := by unfold State.contribute; split <;> simp

@[simp] theorem State.contribute_atnActive (a : BusAgent) (l : BusLine) (v : Bool) (s : State) :
    (s.contribute a l v).atnActive = s.atnActive := by unfold State.contribute; split <;> simp

@[simp] theorem State.contribute_outs (a : BusAgent) (l : BusLine) (v : Bool) (s : State) :
    (s.contribute a l v).outs = s.outs := by unfold State.contribute; split <;> simp

@[simp] theorem State.contribute_regs (a : BusAgent) (l : BusLine) (v : Bool) (s : State) :
    (s.contribute a l v).regs = s.regs := by unfold State.contribute; split <;> simp

@[simp] theorem State.contribute_status (a : BusAgent) (l : BusLine) (v : Bool) (s : State) :
    (s.contribute a l v).status = s.status := by unfold State.contribute; split <;> simp

@[simp] theorem State.contribute_ic (a : BusAgent) (l : BusLine) (v : Bool) (s : State) :
    (s.contribute a l v).ic = s.ic := by unfold State.contribute; split <;> simp

@[simp] theorem State.contribute_clk (a : BusAgent) (l : BusLine) (v : Bool) (s : State) :
    (s.contribute a l v).clk = s.clk := by unfold State.contribute; split <;> simp

@[simp] theorem State.contribute_inputs (a : BusAgent) (l : BusLine) (v : Bool) (s : State) :
    (s.contribute a l v).inputs = s.inputs := by unfold State.contribute; split <;> simp

@[simp] theorem State.contribute_events (a : BusAgent) (l : BusLine) (v : Bool) (s : State) :
    (s.contribute a l v).events = s.events := by unfold State.contribute; split <;> simp

@[simp] theorem State.contribute_returned (a : BusAgent) (l : BusLine) (v : Bool) (s : State) :
    (s.contribute a l v).returned = s.returned := by unfold State.contribute; split <;> simp

@[simp] theorem State.contribute_others (a : BusAgent) (l : BusLine) (v : Bool) (s : State) :
    (s.contribute a l v).others = if a = s.cfg.self then s.others else recordContribution a l v s.others := by
  unfold State.contribute; split <;> simp

@[simp] theorem State.forceLine_cfg (l : BusLine) (v : Bool) (s : State) :
    (s.forceLine l v).cfg = s.cfg := by unfold State.forceLine; split <;> simp

@[simp] theorem State.forceLine_atnActive (l : BusLine) (v : Bool) (s : State) :
    (s.forceLine l v).atnActive = s.atnActive := by unfold State.forceLine; split <;> simp

@[simp] theorem State.forceLine_outs (l : BusLine) (v : Bool) (s : State) :
    (s.forceLine l v).outs = s.outs := by unfold State.forceLine; split <;> simp

@[simp] theorem State.forceLine_others (l : BusLine) (v : Bool) (s : State) :
    (s.forceLine l v).others = s.others := by unfold State.forceLine; split <;> simp

@[simp] theorem State.forceLine_regs (l : BusLine) (v : Bool) (s : State) :
    (s.forceLine l v).regs = s.regs := by unfold State.forceLine; split <;> simp

@[simp] theorem State.forceLine_status (l : BusLine) (v : Bool) (s : State) :
    (s.forceLine l v).status = s.status := by unfold State.forceLine; split <;> simp

@[simp] theorem State.forceLine_ic (l : BusLine) (v : Bool) (s : State) :
    (s.forceLine l v).ic = s.ic := by unfold State.forceLine; split <;> simp

@[simp] theorem State.forceLine_clk (l : BusLine) (v : Bool) (s : State) :
    (s.forceLine l v).clk = s.clk := by unfold State.forceLine; split <;> simp

@[simp] theorem State.forceLine_inputs (l : BusLine) (v : Bool) (s : State) :
    (s.forceLine l v).inputs = s.inputs := by unfold State.forceLine; split <;> simp

@[simp] theorem State.forceLine_events (l : BusLine) (v : Bool) (s : State) :
    (s.forceLine l v).events = s.events := by unfold State.forceLine; split <;> simp

@[simp] theorem State.forceLine_returned (l : BusLine) (v : Bool) (s : State) :
    (s.forceLine l v).returned = s.returned := by unfold State.forceLine; split <;> simp

/-- The value formed for a line depends on the configuration and the other adapters' contributions alone. -/
theorem State.busValue_congr {s t : State} (hc : s.cfg = t.cfg) (ho : s.others = t.others) (l : BusLine) (own : Bool) :
    s.busValue l own = t.busValue l own := by
  simp [State.busValue, hc, ho]

/-- In SOLO a line is the own contribution (92 D4). -/
theorem State.busValue_solo {s : State} (h : s.cfg.combine = .solo) (l : BusLine) (own : Bool) :
    s.busValue l own = own := by
  simp [State.busValue, lineValue, h]

@[simp] theorem setSlot_u0 (st : DriveStatus) (v : StatusCode) : setSlot st .u0 v = { st with slot0 := v } := rfl

@[simp] theorem setSlot_u1 (st : DriveStatus) (v : StatusCode) :
    setSlot st .u1 v = { st with slot1 := st.slot1.map fun _ => v } := rfl

@[simp] theorem getSlot_u0 (st : DriveStatus) : getSlot st .u0 = some st.slot0 := rfl

@[simp] theorem getSlot_u1 (st : DriveStatus) : getSlot st .u1 = st.slot1 := rfl

/-- A field that is written reads as written where it exists. -/
@[simp] theorem getSlot_setSlot_self (st : DriveStatus) (u : UnitNo) (v : StatusCode) :
    getSlot (setSlot st u v) u = (getSlot st u).map fun _ => v := by cases u <;> rfl

/-- Of two writes of one field the later one counts. -/
theorem setSlot_setSlot (st : DriveStatus) (u : UnitNo) (v w : StatusCode) : setSlot (setSlot st u v) u w = setSlot st u w := by
  cases u <;> simp [Function.comp_def]

/-- No write makes or removes `status[1]` (10_state.md R34). -/
@[simp] theorem setSlot_slot1_isSome (st : DriveStatus) (u : UnitNo) (v : StatusCode) :
    (setSlot st u v).slot1.isSome = st.slot1.isSome := by cases u <;> simp

/-- `status[1]` exists at construction exactly with `P_SLOT1` (R34). -/
@[simp] theorem initialStatus_slot1_isSome (slot1 : Bool) (v w : StatusCode) :
    (initialStatus slot1 v w).slot1.isSome = slot1 := by cases slot1 <;> rfl

end Sys2Proof.Machine
end

