-- ==== Sys2Proof/Laws/Context.lean ====
section
/-! SUPPORT. The small lemmas of a context, and that both adapters see one Bus Line Set: the value either forms for a line is the
one of all contributions. -/

namespace Sys2Proof.Machine

@[simp] theorem otherUnit_otherUnit (u : UnitNo) : otherUnit (otherUnit u) = u := by cases u <;> rfl

@[simp] theorem otherUnit_u0 : otherUnit .u0 = .u1 := rfl

@[simp] theorem otherUnit_u1 : otherUnit .u1 = .u0 := rfl

@[simp] theorem Context.view_legacy (c : Context) (u : UnitNo) : (c.view u).cfg.legacy = (c.part u).settings.legacy := rfl
@[simp] theorem Context.view_unit (c : Context) (u : UnitNo) : (c.view u).cfg.unit = u := rfl
@[simp] theorem Context.view_dual (c : Context) (u : UnitNo) : (c.view u).cfg.dual = (c.part u).settings.dual := rfl
@[simp] theorem Context.view_self (c : Context) (u : UnitNo) : (c.view u).cfg.self = .unit u := rfl
@[simp] theorem Context.view_combine (c : Context) (u : UnitNo) : (c.view u).cfg.combine = .shared := rfl
@[simp] theorem Context.view_atnActive (c : Context) (u : UnitNo) : (c.view u).atnActive = (c.part u).atnActive := rfl
@[simp] theorem Context.view_outs (c : Context) (u : UnitNo) : (c.view u).outs = (c.part u).outs := rfl
@[simp] theorem Context.view_lines (c : Context) (u : UnitNo) : (c.view u).lines = c.lines := rfl
@[simp] theorem Context.view_others (c : Context) (u : UnitNo) : (c.view u).others = c.contributionsBeside u := rfl
@[simp] theorem Context.view_regs (c : Context) (u : UnitNo) : (c.view u).regs = (c.part u).regs := rfl
@[simp] theorem Context.view_status (c : Context) (u : UnitNo) : (c.view u).status = c.status := rfl
@[simp] theorem Context.view_ic (c : Context) (u : UnitNo) : (c.view u).ic = (c.part u).ic := rfl
@[simp] theorem Context.view_events (c : Context) (u : UnitNo) : (c.view u).events = (c.part u).events := rfl
@[simp] theorem Context.view_returned (c : Context) (u : UnitNo) : (c.view u).returned = (c.part u).returned := rfl

@[simp] theorem Context.store_lines (c : Context) (u : UnitNo) (t : State) : (c.store u t).lines = t.lines := by
  cases u <;> rfl

@[simp] theorem Context.store_status (c : Context) (u : UnitNo) (t : State) : (c.store u t).status = t.status := by
  cases u <;> rfl

@[simp] theorem Context.store_others (c : Context) (u : UnitNo) (t : State) : (c.store u t).others = c.others := by
  cases u <;> rfl

@[simp] theorem Context.store_inputs (c : Context) (u : UnitNo) (t : State) : (c.store u t).inputs = c.inputs := by
  cases u <;> rfl

@[simp] theorem Context.store_part (c : Context) (u : UnitNo) (t : State) :
    (c.store u t).part u = (c.part u).after t := by cases u <;> rfl

@[simp] theorem Context.store_part_other (c : Context) (u : UnitNo) (t : State) :
    (c.store u t).part (otherUnit u) = c.part (otherUnit u) := by cases u <;> rfl

/-- What stands beside an adapter's own contributions is not changed by its own run. -/
@[simp] theorem Context.store_contributionsBeside (c : Context) (u : UnitNo) (t : State) :
    (c.store u t).contributionsBeside u = c.contributionsBeside u := by
  simp [Context.contributionsBeside]

/-- A run of an adapter that answers a next state is that state stored. -/
theorem Context.answer_next {c : Context} {u : UnitNo} {o : Host.Outcome State Fault Refusal} {x : Context}
    (h : c.answer u o = .next x) : ∃ t, o = .next t ∧ x = c.store u t := by
  cases o with
  | next t => exact ⟨t, rfl, by cases h; rfl⟩
  | fault r => cases h
  | refused r => cases h

/-- All contributions are the own ones of either adapter recorded beside the rest. -/
theorem Context.contributions_eq (c : Context) (u : UnitNo) :
    c.contributions = recordOutputs (.unit u) (c.part u).outs (c.contributionsBeside u) := by
  cases u
  · rfl
  · exact recordOutputs_comm (by decide) _ _ _

/-- The value that either adapter's setter forms for a line from its output is the one of all contributions: the two adapters
share one Bus Line Set (60_exceptions.md R159). -/
theorem Context.view_busValue (c : Context) (u : UnitNo) {line : BusLine} {v : Bool}
    (hv : outputTo (c.part u).outs line = some v) : (c.view u).busValue line v = c.formedValue line := by
  rw [Context.formedValue, Context.contributions_eq c u, contributionsTo_recordOutputs hv]
  rfl

/-- The lines are formed as one adapter sees them iff they are formed from all contributions. -/
theorem Context.view_linesFormed (c : Context) (u : UnitNo) :
    (c.view u).linesFormed ↔ c.linesFormed := by
  simp only [State.linesFormed, Context.linesFormed, Context.view_outs, Context.view_lines]
  rw [Context.view_busValue c u (line := .dav) rfl, Context.view_busValue c u (line := .eoi) rfl,
    Context.view_busValue c u (line := .nrfd) rfl, Context.view_busValue c u (line := .ndac) rfl]

end Sys2Proof.Machine
end

