-- ==== Sys2Proof/Laws/Decode.lean ====
section
/-! SUPPORT. The fields of an encoded word, and what a row selection answers. -/

namespace Sys2Proof

/-- A row is selected exactly by the words its mask and match pick (30_encoding.md R72). -/
theorem selectRow_ok_iff {w mask pattern : OpWord} {i j : Instr} :
    selectRow w mask pattern i = .ok j ↔ w &&& mask = pattern ∧ i = j := by
  unfold selectRow
  split <;> simp_all

/-- A row refuses exactly the other words (R75). -/
theorem selectRow_error_iff {w mask pattern : OpWord} {i : Instr} {e : DecodeError} :
    selectRow w mask pattern i = .error e ↔ w &&& mask ≠ pattern ∧ e = .nonzeroReservedField := by
  unfold selectRow
  split <;> simp_all [eq_comm]

/-- The byte operand comes back from a word with a byte field. -/
theorem fieldD_encodeByte (u d : Byte) : fieldD (encodeByte u d) = d := by
  apply BitVec.eq_of_getLsbD_eq
  intro k hk
  rw [fieldD, encodeByte, BitVec.getLsbD_extractLsb', BitVec.getLsbD_append]
  simp [hk]

/-- The boolean operand comes back from a word with a boolean field. -/
theorem fieldB_encodeBool (op : BitVec 4) (b : Bool) : fieldB (encodeBool op b) = b := by
  revert op b
  decide

/-- The upper byte of a word with a byte field, under the mask 0xFF00 of its row. -/
theorem encodeByte_masked (u d : Byte) : encodeByte u d &&& 0xFF00#16 = u ++ 0#8 := by
  apply BitVec.eq_of_getLsbD_eq
  intro k hk
  simp only [encodeByte, BitVec.getLsbD_and, BitVec.getLsbD_append]
  interval_cases k <;> simp

end Sys2Proof
end

