-- ==== Sys2Proof/Laws/Ops.lean ====
section
/-! SUPPORT. One lemma per shared operation, saying everything it does; later proofs cite these and do not unfold. -/

namespace Sys2Proof.Machine

/-- Everything `DERIVE(p)` does (40_handshake.md R90, R93). -/
theorem State.derive_eq (p : Byte) (s : State) :
    s.derive p =
      { s with
        outs := { s.outs with nrfd := nrfdOf s.atnActive p, ndac := ndacOf s.atnActive p }
        lines := { s.lines with
          nrfd := s.busValue .nrfd (nrfdOf s.atnActive p)
          ndac := s.busValue .ndac (ndacOf s.atnActive p) }
        events := s.events ++ [.setNRFD (nrfdOf s.atnActive p), .setNDAC (ndacOf s.atnActive p)] } := by
  simp [State.derive, State.setNRFD, State.setNDAC, State.busValue]

/-- Everything WRA and RSA do after the Chip Core's store (42_port_write.md R110). -/
theorem State.portAWrite_eq (d : Byte) (s : State) :
    s.portAWrite d =
      { s with
        outs :=
          { nrfd := nrfdOf s.atnActive d, ndac := ndacOf s.atnActive d, eoi := eoiOf d, dav := davOf d }
        lines :=
          { atn := s.lines.atn
            dav := s.busValue .dav (davOf d)
            eoi := s.busValue .eoi (eoiOf d)
            nrfd := s.busValue .nrfd (nrfdOf s.atnActive d)
            ndac := s.busValue .ndac (ndacOf s.atnActive d) }
        events := s.events ++
          [.setNRFD (nrfdOf s.atnActive d), .setNDAC (ndacOf s.atnActive d), .setEOI (eoiOf d), .setDAV (davOf d)] } := by
  simp [State.portAWrite, State.derive_eq, State.setEOI, State.setDAV, State.busValue]

/-- Everything WRB and RSB do after the Chip Core's store when the unit serves two mechanisms (R112, R114). -/
theorem State.portBWrite_two (d : Byte) (s : State) (h : servesTwo s.cfg = true) :
    s.portBWrite d =
      { s with
        status := { slot0 := primaryStatus d, slot1 := s.status.slot1.map fun _ => secondaryStatus d }
        events := s.events ++ [.status .u0 (primaryStatus d), .status .u1 (secondaryStatus d)] } := by
  have hu : s.cfg.unit = .u0 := by
    simp [servesTwo] at h
    exact h.1
  simp [State.portBWrite, h, hu, State.writeStatus]

/-- Everything WRB and RSB do after the Chip Core's store otherwise (R112). -/
theorem State.portBWrite_one (d : Byte) (s : State) (h : servesTwo s.cfg = false) :
    s.portBWrite d =
      { s with
        status := setSlot s.status s.cfg.unit (primaryStatus d)
        events := s.events ++ [.status s.cfg.unit (primaryStatus d)] } := by
  simp [State.portBWrite, h, State.writeStatus]

/-- Everything the legacy ATN transition does (41_atn_edge.md R101). -/
theorem State.atnTransition_eq (b : Bool) (s : State) :
    s.atnTransition b =
      { s with
        atnActive := b
        outs := { s.outs with nrfd := nrfdOf b s.regs.ORA, ndac := ndacOf b s.regs.ORA }
        lines := { s.lines with
          nrfd := s.busValue .nrfd (nrfdOf b s.regs.ORA)
          ndac := s.busValue .ndac (ndacOf b s.regs.ORA) }
        events := s.events ++ ((edgeOf s.atnActive b).toList.map Event.signalEdge ++
          [.siblingRederive s.cfg.sibling, .setNRFD (nrfdOf b s.regs.ORA), .setNDAC (ndacOf b s.regs.ORA)]) } := by
  cases h : edgeOf s.atnActive b <;>
    simp [State.atnTransition, State.derive_eq, State.siblingRederive, State.emit, State.setAtnActive,
      State.signalEdge, State.busValue, h]

/-- Everything the adapter does on RST after the Chip Core's reset (70_reset_and_hazards.md R170). -/
theorem State.adapterReset_eq (s : State) :
    s.adapterReset =
      { s with
        atnActive := false
        outs :=
          { nrfd := nrfdOf false s.regs.ORA, ndac := ndacOf false s.regs.ORA, eoi := false, dav := false }
        lines :=
          { atn := s.lines.atn
            dav := s.busValue .dav false
            eoi := s.busValue .eoi false
            nrfd := s.busValue .nrfd (nrfdOf false s.regs.ORA)
            ndac := s.busValue .ndac (ndacOf false s.regs.ORA) }
        status := setSlot s.status s.cfg.unit bothIndicatorsActive
        events := s.events ++
          [.setDAV false, .setEOI false, .setNRFD (nrfdOf false s.regs.ORA), .setNDAC (ndacOf false s.regs.ORA),
            .status s.cfg.unit bothIndicatorsActive] } := by
  simp [State.adapterReset, State.derive_eq, State.writeStatus, State.setAtnActive, State.setDAV, State.setEOI,
    State.busValue]

end Sys2Proof.Machine
end

