-- ==== Sys2Proof/Laws/Exec.lean ====
section
/-! SUPPORT. What an operation can do, said once: the inversion lemma of `exec`. -/

namespace Sys2Proof.Machine

/-- If an operation answers a next state, it is one of these. -/
theorem exec_cases {i : Instr} {s t : State} (h : exec i s = .next t) :
    (∃ d, (i = .wra d ∨ i = .rsa d) ∧ t = (s.coreStoreA d).portAWrite d) ∨
    (∃ d, (i = .wrb d ∨ i = .rsb d) ∧ t = (s.coreStoreB d).portBWrite d) ∨
    (i = .rda ∧ t = s.reply s.portAByte) ∨
    (i = .rdb ∧ t = s.reply s.portBByte) ∨
    (i = .rst ∧ t = s.coreReset.adapterReset) ∨
    (∃ b, i = .atn b ∧ s.cfg.legacy = true ∧ t = s.atnTransition b) ∨
    (∃ b, i = .atn b ∧ s.cfg.legacy = false ∧ t = s) ∨
    (i = .irq true ∧ t = s.icAssert s.clk) ∨
    (i = .irq false ∧ t = s.icDeassert) ∨
    (∃ b, i = .irr b ∧ t = s.icRestore b) := by
  cases i with
  | wra d => cases h; exact .inl ⟨d, .inl rfl, rfl⟩
  | rsa d => cases h; exact .inl ⟨d, .inr rfl, rfl⟩
  | wrb d => cases h; exact .inr (.inl ⟨d, .inl rfl, rfl⟩)
  | rsb d => cases h; exact .inr (.inl ⟨d, .inr rfl, rfl⟩)
  | rda => cases h; exact .inr (.inr (.inl ⟨rfl, rfl⟩))
  | rdb => cases h; exact .inr (.inr (.inr (.inl ⟨rfl, rfl⟩)))
  | rst => cases h; exact .inr (.inr (.inr (.inr (.inl ⟨rfl, rfl⟩))))
  | atn b =>
    cases hl : s.cfg.legacy <;> simp only [exec, execAtn, hl, Host.Outcome.next.injEq] at h
    · simp_all
    · simp_all
  | irq b => cases b <;> simp_all [exec, execIrq]
  | irr b => cases h; simp

/-- A port-B write leaves everything but the status fields and the trace alone, whatever the configuration. -/
theorem State.portBWrite_fields (d : Byte) (s : State) :
    ∃ st ev, s.portBWrite d = { s with status := st, events := s.events ++ ev } := by
  cases h : servesTwo s.cfg
  · exact ⟨_, _, s.portBWrite_one d h⟩
  · exact ⟨_, _, s.portBWrite_two d h⟩

end Sys2Proof.Machine
end

