-- ==== Sys2Proof/Laws/PerInstr.lean ====
section
/-! SUPPORT. Statements made of every instruction as syntax: its word matches its row of the table of 30_encoding.md R72. -/

namespace Sys2Proof.Laws

/-- The mask of an operation's row (R72). -/
def rowMask : Instr → OpWord
  | .wra _ => 0xFF00
  | .rsa _ => 0xFF00
  | .wrb _ => 0xFF00
  | .rsb _ => 0xFF00
  | .rda => 0xFFFF
  | .rdb => 0xFFFF
  | .rst => 0xFFFF
  | .atn _ => 0xFEFF
  | .irq _ => 0xFEFF
  | .irr _ => 0xFEFF

/-- The match of an operation's row (R72). -/
def rowMatch : Instr → OpWord
  | .wra _ => 0x1000
  | .rsa _ => 0x2000
  | .wrb _ => 0x3000
  | .rsb _ => 0x4000
  | .rda => 0x5000
  | .rdb => 0x6000
  | .rst => 0x7000
  | .atn _ => 0x8000
  | .irq _ => 0x9000
  | .irr _ => 0xA000

/-- The word of the operation satisfies `(w & mask) == match` of its row. -/
def RowSelected.Statement (i : Instr) : Prop := encode i &&& rowMask i = rowMatch i

theorem RowSelected.wra (d : Byte) : RowSelected.Statement (.wra d) := encodeByte_masked _ d
theorem RowSelected.rsa (d : Byte) : RowSelected.Statement (.rsa d) := encodeByte_masked _ d
theorem RowSelected.wrb (d : Byte) : RowSelected.Statement (.wrb d) := encodeByte_masked _ d
theorem RowSelected.rsb (d : Byte) : RowSelected.Statement (.rsb d) := encodeByte_masked _ d
theorem RowSelected.rda : RowSelected.Statement .rda := rfl
theorem RowSelected.rdb : RowSelected.Statement .rdb := rfl
theorem RowSelected.rst : RowSelected.Statement .rst := rfl
theorem RowSelected.atn (b : Bool) : RowSelected.Statement (.atn b) := by cases b <;> rfl
theorem RowSelected.irq (b : Bool) : RowSelected.Statement (.irq b) := by cases b <;> rfl
theorem RowSelected.irr (b : Bool) : RowSelected.Statement (.irr b) := by cases b <;> rfl

end Sys2Proof.Laws
end

