-- ==== Sys2Proof/Laws/Step.lean ====
section
/-! SUPPORT. What a step can do, said once: what the collaborator steps leave alone, and the inversion lemma of `step`. -/

namespace Sys2Proof.Machine

@[simp] theorem applyEnv_cfg (e : EnvStep) (s : State) : (applyEnv e s).cfg = s.cfg := by
  cases e <;> simp [applyEnv]

@[simp] theorem applyEnv_atnActive (e : EnvStep) (s : State) : (applyEnv e s).atnActive = s.atnActive := by
  cases e <;> simp [applyEnv]

@[simp] theorem applyEnv_outs (e : EnvStep) (s : State) : (applyEnv e s).outs = s.outs := by
  cases e <;> simp [applyEnv]

@[simp] theorem applyEnv_ic (e : EnvStep) (s : State) : (applyEnv e s).ic = s.ic := by
  cases e <;> simp [applyEnv]

@[simp] theorem applyEnv_clk (e : EnvStep) (s : State) : (applyEnv e s).clk = s.clk := by
  cases e <;> simp [applyEnv]

@[simp] theorem applyEnv_events (e : EnvStep) (s : State) : (applyEnv e s).events = s.events := by
  cases e <;> simp [applyEnv]

@[simp] theorem applyEnv_returned (e : EnvStep) (s : State) : (applyEnv e s).returned = s.returned := by
  cases e <;> simp [applyEnv]

/-- A collaborator step leaves the inputs still to come, but for teardown, which drops them. -/
theorem applyEnv_inputs (e : EnvStep) (s : State) : (applyEnv e s).inputs = s.inputs ∨ (applyEnv e s).inputs = [] := by
  cases e <;> simp [applyEnv]

/-- A directly set line: nothing in SOLO but for ATN, the line's new value otherwise (log 6). -/
theorem State.forceLine_cases (l : BusLine) (v : Bool) (s : State) :
    (s.cfg.combine = .solo ∧ l ≠ .atn ∧ s.forceLine l v = s) ∨
    ((s.cfg.combine = .shared ∨ l = .atn) ∧ s.forceLine l v = s.setLine l v) := by
  unfold State.forceLine
  cases s.cfg.combine <;> by_cases h : l = .atn <;> simp [h]

/-- If a step answers a next state, it idled, ran a decoded operation or took a collaborator step. -/
theorem step_cases {s t : State} (h : step s = .next t) :
    (s.inputs = [] ∧ t = s) ∨
    (∃ w c rest i, s.inputs = .op w c :: rest ∧ decode w = .ok i ∧ exec i (s.deliver rest c) = .next t) ∨
    (∃ e rest, s.inputs = .env e :: rest ∧ t = applyEnv e (s.await rest)) := by
  unfold step runNext at h
  split at h
  · rename_i h0
    cases h
    exact .inl ⟨h0, rfl⟩
  · rename_i w c rest h0
    unfold runWord at h
    split at h
    · rename_i i hd
      exact .inr (.inl ⟨w, c, rest, i, h0, hd, h⟩)
    · cases h
  · rename_i e rest h0
    cases h
    exact .inr (.inr ⟨e, rest, h0, rfl⟩)

end Sys2Proof.Machine
end

