-- ==== Sys2Proof/Laws/Trace.lean ====
section
/-! SUPPORT. The small lemmas of the trace's readings, edge events and calls of the Interrupt Controller, and of the inputs that a
Chip Core's answer leaves. -/

namespace Sys2Proof.Machine

@[simp] theorem edgesOf_nil : edgesOf [] = [] := rfl

@[simp] theorem edgesOf_append (l m : List Event) : edgesOf (l ++ m) = edgesOf l ++ edgesOf m := by
  simp [edgesOf]

@[simp] theorem edgesOf_cons (e : Event) (l : List Event) : edgesOf (e :: l) = (edgeKindOf e).toList ++ edgesOf l := by
  cases h : edgeKindOf e <;> simp [edgesOf, h]

@[simp] theorem icSourcesOf_nil : icSourcesOf [] = [] := rfl

@[simp] theorem icSourcesOf_append (l m : List Event) : icSourcesOf (l ++ m) = icSourcesOf l ++ icSourcesOf m := by
  simp [icSourcesOf]

@[simp] theorem icSourcesOf_cons (e : Event) (l : List Event) :
    icSourcesOf (e :: l) = (icSourceOf e).toList ++ icSourcesOf l := by
  cases h : icSourceOf e <;> simp [icSourcesOf, h]

/-- The edge a legacy transition signals is the detector's (41_atn_edge.md R101, R102). -/
theorem edgesOf_signalled (e : Option EdgeKind) : edgesOf (e.toList.map Event.signalEdge) = e.toList := by
  cases e <;> simp [edgeKindOf]

/-- Where nothing is put among the inputs they stay. -/
@[simp] theorem interleaves_nil_left {zs ys : List Input} : interleaves zs [] ys ↔ zs = ys := by
  induction zs generalizing ys with
  | nil => simp [interleaves, eq_comm]
  | cons z zs ih => cases ys <;> simp [interleaves, ih, eq_comm, and_comm]

/-- Where no input waits there are only those that are put there. -/
@[simp] theorem interleaves_nil_right {zs xs : List Input} : interleaves zs xs [] ↔ zs = xs := by
  induction zs generalizing xs with
  | nil => simp [interleaves, eq_comm]
  | cons z zs ih => cases xs <;> simp [interleaves, ih, eq_comm, and_comm]

/-- One more operation of a list. -/
theorem execAll_cons {i : Instr} {is : List Instr} {s t : State} (h : exec i s = .next t) :
    execAll (i :: is) s = execAll is t := by
  simp [execAll, h]

end Sys2Proof.Machine
end

