-- ==== Sys2Proof/Tests/Slice0.lean ====
section
/-! SUPPORT. Tests of the model against 95_test_vectors.md and the rules' examples, each about one step, and a witness for the
hypotheses of every statement. Expected values are the spec's. -/

namespace Sys2Proof.Tests

open Sys2Proof.Machine

/-- A SOLO adapter with recognisable values (95_test_vectors.md conventions). -/
def adapter (unit : UnitNo) (legacy dual latch : Bool) : State where
  cfg :=
    { unit := unit, legacy := legacy, dual := dual, slot1 := true, sourceName := ⟨1⟩, source := ⟨2⟩, irqKind := ⟨3⟩
      sibling := .other ⟨4⟩, coreReset := { ORA := 0x00, DDRA := 0x00, ORB := 0x00, DDRB := 0x00 }, combine := .solo }
  atnActive := latch
  outs := { nrfd := true, ndac := false, eoi := true, dav := true }
  lines := { atn := true, dav := true, eoi := true, nrfd := true, ndac := false }
  others := []
  regs := { ORA := 0x1C, DDRA := 0x1F, ORB := 0x28, DDRB := 0x38 }
  status := { slot0 := 0, slot1 := some 2 }
  ic := { level := true, clk := 100 }
  clk := 150
  inputs := []
  events := []
  returned := []

/-- The same adapter on a shared bus. -/
def sharedAdapter (unit : UnitNo) (latch : Bool) : State :=
  let s := adapter unit true true latch
  { s with cfg := { s.cfg with combine := .shared } }

/-- The same adapter with given inputs waiting. -/
def waiting (l : List Input) : State := { adapter .u0 true true true with inputs := l }

/-- The same adapter with given line values and register view, for the read vectors. -/
def reading (unit : UnitNo) (lines : LineValues) (regs : CoreRegs) : State :=
  { adapter unit true false false with lines := lines, regs := regs }

/-- A reading of the next state, if there is one. -/
def after {α : Type} (f : State → α) (o : Host.Outcome State Fault Refusal) : Option α :=
  match o with
  | .next t => some (f t)
  | .fault _ => none
  | .refused _ => none

/-- A configuration offered to construction. -/
def rawConfig (unit : Nat) (dual slot1 : Bool) : RawConfig where
  unit := unit
  legacy := true
  dual := dual
  slot1 := slot1
  sourceName := ⟨1⟩
  irqKind := ⟨3⟩
  sibling := .other ⟨4⟩
  coreReset := { ORA := 0x00, DDRA := 0x00, ORB := 0x00, DDRB := 0x00 }
  combine := .solo

/-- Construction values, for the construction tests. -/
def someInit : InitValues where
  atnActive := true
  outs := { nrfd := true, ndac := true, eoi := true, dav := true }
  status0 := 1
  status1 := 2
  atn := true
  others := [⟨.other ⟨8⟩, .dav, true⟩, ⟨.unit .u0, .dav, false⟩, ⟨.unit .u1, .dav, false⟩, ⟨.other ⟨8⟩, .atn, true⟩]
  regs := { ORA := 0x55, DDRA := 0xAA, ORB := 0x33, DDRB := 0xCC }
  ic := { level := false, clk := 7 }

/-! ## Well-formedness smoke tests (R9) -/

theorem test_wf_accepts_unit1_without_slot : (rawConfig 1 true false).wf = true := by decide
theorem test_wf_refuses_unit_2 : (rawConfig 2 false true).unitOk = false ∧ (rawConfig 2 false true).wf = false := by decide
theorem test_wf_refuses_dual_without_slot :
    (rawConfig 0 true false).slotOk = false ∧ (rawConfig 0 true false).wf = false := by decide
theorem test_record_wf_refuses_dual_without_slot :
    AdapterConfig.wf { (adapter .u0 true true true).cfg with slot1 := false } = false := by decide
theorem test_construct_refuses : construct (rawConfig 0 true false) someInit = .refused .illFormedConfig := rfl

/-! ## Decoding: words written out from the patterns of R72, V9 -/

theorem test_decode_wra : decode 0b0001000000011100 = .ok (.wra 0b00011100) := by decide
theorem test_decode_rsa : decode 0b0010000010000001 = .ok (.rsa 0b10000001) := by decide
theorem test_decode_wrb : decode 0b0011000011111111 = .ok (.wrb 0b11111111) := by decide
theorem test_decode_rsb : decode 0b0100000000101000 = .ok (.rsb 0b00101000) := by decide
theorem test_decode_rda : decode 0b0101000000000000 = .ok .rda := by decide
theorem test_decode_rdb : decode 0b0110000000000000 = .ok .rdb := by decide
theorem test_decode_rst : decode 0b0111000000000000 = .ok .rst := by decide
theorem test_decode_atn : decode 0b1000000100000000 = .ok (.atn true) := by decide
theorem test_decode_irq : decode 0b1001000000000000 = .ok (.irq false) := by decide
theorem test_decode_irr : decode 0b1010000100000000 = .ok (.irr true) := by decide
theorem test_decode_reserved_ops :
    [0x0000, 0x0FFF, 0xB000, 0xC000, 0xD000, 0xE000, 0xF123].all
      (fun w => decide (decode w = .error .reservedOp)) = true := by decide
theorem test_decode_nonzero_fields :
    [0x1200, 0x1100, 0x1F00, 0x5001, 0x6100, 0x7100, 0x8101, 0x8200, 0x9E00, 0xA1FF].all
      (fun w => decide (decode w = .error .nonzeroReservedField)) = true := by decide
theorem test_encode_words :
    encode (.wra 0x1C) = 0x101C ∧ encode (.atn true) = 0x8100 ∧ encode (.irq true) = 0x9100 ∧
      encode (.irr false) = 0xA000 := by decide
theorem test_decodeTableWord :
    decodeTableWord 16 0x4028 = some (.rsb 0x28) ∧ decodeTableWord 16 0x5001 = none := by decide
theorem test_first_word_after_reset_runs :
    (step (State.reset.withFetchWord 16 0x8100)) = exec (.atn true) State.reset := rfl

/-! ## DERIVE: table V1 (rows latch, p[2:0], NRFD, NDAC) -/

/-- The 16 rows of V1: latch, the bits p[2] p[1] p[0] as a number, NRFD, NDAC. -/
def tableV1 : List (Bool × Byte × Bool × Bool) :=
  [(false, 0, true, false), (false, 4, false, false), (false, 2, true, true), (false, 6, false, true),
   (false, 1, true, false), (false, 5, true, false), (false, 3, true, true), (false, 7, true, true)] ++
  [(true, 0, true, true), (true, 4, true, true), (true, 2, true, true), (true, 6, true, true),
   (true, 1, true, false), (true, 5, false, false), (true, 3, true, true), (true, 7, false, true)]

theorem test_derive_table :
    tableV1.all (fun r => nrfdOf r.1 r.2.1 == r.2.2.1 && ndacOf r.1 r.2.1 == r.2.2.2) = true := by decide

/-! ## Operations -/

theorem test_wra_1C_latch_set :   -- V2
    after State.outs (exec (.wra 0x1C) (adapter .u0 true false true)) =
      some { nrfd := true, ndac := true, eoi := false, dav := false } := by decide
theorem test_wra_14_asserts_eoi_only :   -- V2
    after State.lines (exec (.wra 0x14) (adapter .u0 true false false)) =
      some { atn := true, dav := false, eoi := true, nrfd := false, ndac := false } := by decide
theorem test_rsa_1D_latch_clear :   -- V2, P4 step 6
    after State.outs (exec (.rsa 0x1D) (adapter .u0 true false false)) =
      some { nrfd := true, ndac := false, eoi := false, dav := false } := by decide
theorem test_wrb_28_dual :   -- W5, V3
    after State.status (exec (.wrb 0x28) (adapter .u0 true true false)) = some { slot0 := 2, slot1 := some 3 } := by decide
theorem test_wrb_28_unit1 :   -- V3
    after State.status (exec (.wrb 0x28) (adapter .u1 true true false)) = some { slot0 := 0, slot1 := some 2 } := by decide
theorem test_rsb_30_single :   -- R112
    after State.status (exec (.rsb 0x30) (adapter .u0 true false false)) = some { slot0 := 3, slot1 := some 2 } := by decide
theorem test_wrb_30_absent_slot :   -- R34: no status[1] without P_SLOT1
    after State.status (exec (.wrb 0x30) { adapter .u1 true false false with status := { slot0 := 1, slot1 := none } }) =
      some { slot0 := 1, slot1 := none } := by decide
theorem test_rda_BC :   -- V4
    after State.returned (exec .rda (reading .u0 { atn := true, dav := true, eoi := false, nrfd := false, ndac := false }
      { ORA := 0x1C, DDRA := 0x1F, ORB := 0, DDRB := 0 })) = some [0xBC] := by decide
theorem test_rda_1F :   -- V4
    after State.returned (exec .rda (reading .u0 { atn := false, dav := true, eoi := true, nrfd := false, ndac := false }
      { ORA := 0x42, DDRA := 0x00, ORB := 0, DDRB := 0 })) = some [0x1F] := by decide
theorem test_rdb_68 :   -- V5
    after State.returned (exec .rdb (reading .u0 { atn := true, dav := true, eoi := false, nrfd := true, ndac := false }
      { ORA := 0, DDRA := 0, ORB := 0x28, DDRB := 0x38 })) = some [0x68] := by decide
theorem test_rdb_39_unit1 :   -- V5
    after State.returned (exec .rdb (reading .u1 { atn := true, dav := true, eoi := false, nrfd := true, ndac := true }
      { ORA := 0, DDRA := 0, ORB := 0xFF, DDRB := 0x00 })) = some [0x39] := by decide
theorem test_rst_from_latch_set :   -- V7
    after (fun t => (t.atnActive, t.outs, t.status)) (exec .rst (adapter .u0 true true true)) =
      some (false, { nrfd := true, ndac := false, eoi := false, dav := false }, { slot0 := 3, slot1 := some 2 }) := by decide
theorem test_rst_events :   -- R170
    after State.events (exec .rst (adapter .u1 true true true)) =
      some [.setDAV false, .setEOI false, .setNRFD true, .setNDAC false, .status .u1 3] := by decide
theorem test_atn_rise :   -- R101's example
    after State.events (exec (.atn true) (adapter .u0 true false false)) =
      some [.signalEdge .rise, .siblingRederive (.other ⟨4⟩), .setNRFD true, .setNDAC true] := by decide
theorem test_atn_unchanged :   -- V6: no edge, the request still sent
    after State.events (exec (.atn false) (adapter .u0 true false false)) =
      some [.siblingRederive (.other ⟨4⟩), .setNRFD false, .setNDAC false] := by decide
theorem test_sibling_of_the_same_context :   -- R104: "sharing the same drive context"
    let s := adapter .u0 true false false
    after (fun t => t.events.contains (.siblingRederive (.unit .u1)))
      (exec (.atn true) { s with cfg := { s.cfg with sibling := .unit .u1 } }) = some true := by decide
theorem test_irq_reassert :   -- V8
    after (fun t => (t.ic, t.events)) (exec (.irq true) (adapter .u0 true false false)) =
      some ({ level := true, clk := 150 }, [.icAssert ⟨2⟩ ⟨3⟩ 150]) := by decide
theorem test_irq_deassert :   -- V8
    after State.ic (exec (.irq false) (adapter .u0 true false false)) = some { level := false, clk := 100 } := by decide
theorem test_irr_clear :   -- V8
    after (fun t => (t.ic, t.events)) (exec (.irr false) (adapter .u0 true false false)) =
      some ({ level := false, clk := 100 }, [.icRestore ⟨2⟩ false]) := by decide

/-! ## Construction and the collaborators -/

theorem test_construct_solo_lines :   -- R28: dav_i = dav_o, atn_i from the environment
    after State.lines (construct (rawConfig 0 true true) someInit) =
      some { atn := true, dav := true, eoi := true, nrfd := true, ndac := true } := by decide
theorem test_construct_slots :   -- R34
    after (fun s => s.status.slot1) (construct (rawConfig 0 true true) someInit) = some (some 2) ∧
    after (fun s => s.status.slot1) (construct (rawConfig 1 true false) someInit) = some none := by decide
theorem test_construct_others :   -- log 5: canonical order, no contribution of its own
    after State.others (construct (rawConfig 0 true true) someInit) =
      some [⟨.unit .u1, .dav, false⟩, ⟨.other ⟨8⟩, .atn, true⟩, ⟨.other ⟨8⟩, .dav, true⟩] := by decide
theorem test_solo_contribution_recorded :   -- R28: in SOLO the line stays the own contribution
    after (fun s => (s.others, s.lines.dav)) (step (waiting [.env (.contribute (.other ⟨7⟩) .dav false)])) =
      some ([⟨.other ⟨7⟩, .dav, false⟩], true) := by decide
theorem test_solo_bus_step :   -- log 6
    after (fun s => s.lines) (step (waiting [.env (.forceLine .eoi false)])) =
      some (waiting []).lines := by decide

/-! ## Witnesses: a concrete state and operands for the hypotheses of each statement -/

theorem witness_DecodedWordIsTheEncoding : ∃ w i, decode w = .ok i := ⟨0x10FF, .wra 0xFF, by decide⟩
theorem witness_StepRunsTheDecodedOperation :
    ∃ s : State, s.inputs = [.op 0x8100 9] ∧ decode 0x8100 = .ok (.atn true) :=
  ⟨waiting [.op 0x8100 9], rfl, by decide⟩
theorem witness_StepRefusesUndecodableWords_reserved :
    ∃ s : State, s.inputs = [.op 0xB000 9] ∧ decode 0xB000 = .error .reservedOp :=
  ⟨waiting [.op 0xB000 9], rfl, by decide⟩
theorem witness_StepRefusesUndecodableWords_nonzero :
    ∃ s : State, s.inputs = [.op 0x1100 9] ∧ decode 0x1100 = .error .nonzeroReservedField :=
  ⟨waiting [.op 0x1100 9], rfl, by decide⟩
theorem witness_LinesFollowAllContributions_other :
    ∃ (s : State) (agent : BusAgent), s.cfg.combine = .shared ∧ agent ≠ s.cfg.self :=
  ⟨sharedAdapter .u0 true, .unit .u1, by decide⟩
theorem witness_LinesFollowAllContributions_own :
    ∃ (s : State) (agent : BusAgent), agent = s.cfg.self := ⟨sharedAdapter .u0 true, .unit .u0, rfl⟩
theorem witness_LinesFollowAllContributions_atn :
    ∃ (s : State) (line : BusLine), s.cfg.combine = .solo ∧ line = .atn := ⟨adapter .u0 true true true, .atn, by decide⟩
theorem witness_LinesFollowAllContributions_solo :
    ∃ (s : State) (line : BusLine), s.cfg.combine = .solo ∧ line ≠ .atn := ⟨adapter .u0 true true true, .ndac, by decide⟩
theorem witness_StepRefusesOnlyForTheseReasons_word : ∃ s : State, step s = .refused .reservedOp :=
  ⟨waiting [.op 0x0FFF 9], rfl⟩
theorem witness_StepRefusesOnlyForTheseReasons_field : ∃ s : State, step s = .refused .nonzeroReservedField :=
  ⟨waiting [.op 0x5001 9], rfl⟩
theorem witness_DeriveUsesThreeBitsAndTheLatch :
    ∃ (p q : Byte) (s u : State), p ≠ q ∧ p.extractLsb' 0 3 = q.extractLsb' 0 3 ∧ s ≠ u ∧ s.atnActive = u.atnActive :=
  ⟨0x05, 0xFD, adapter .u0 true true true, adapter .u1 false false true, by decide⟩
theorem witness_PortARestoreRoundTrip :
    ∃ s u : State, s ≠ u ∧ s.atnActive = u.atnActive :=
  ⟨adapter .u0 true true true, adapter .u1 true false true, by decide⟩
theorem witness_RestoreWithAnotherLatchDiffers : ∃ s u : State, s.atnActive = true ∧ u.atnActive = false :=
  ⟨adapter .u0 true true true, adapter .u0 true true false, by decide⟩
theorem witness_ResetAndAtnBringBackTheCapturedLatch_legacy :
    ∃ s u : State, s.atnActive = true ∧ u.cfg.legacy = true ∧ u.atnActive = false :=
  ⟨adapter .u0 true true true, adapter .u0 true true false, by decide⟩
theorem witness_ResetAndAtnBringBackTheCapturedLatch_clear :
    ∃ s u : State, s.atnActive = false ∧ u.cfg.legacy = false :=
  ⟨adapter .u0 false true false, adapter .u0 false true true, by decide⟩
theorem witness_EncodedOperationsRunWithoutStop :
    ∃ s : State, s.inputs ≠ [] ∧ ∀ x ∈ s.inputs, (∃ e, x = .env e) ∨ ∃ i clk, x = inputOf i clk :=
  ⟨waiting [inputOf (.atn true) 9, .env (.contribute (.other ⟨7⟩) .dav true)], by decide, by
    intro x hx
    rcases List.mem_cons.1 hx with rfl | hx
    · exact .inr ⟨_, _, rfl⟩
    · exact .inl ⟨_, List.mem_singleton.1 hx⟩⟩
theorem witness_PortBWriteAndRestoreSetStatus_dual :
    ∃ (d : Byte) (s : State) (i : Instr), (i = .wrb d ∨ i = .rsb d) ∧ s.cfg.unit = .u0 ∧ s.cfg.dual = true :=
  ⟨0xFF, adapter .u0 true true true, .wrb 0xFF, by decide⟩
theorem witness_PortBWriteAndRestoreSetStatus_single :
    ∃ (d : Byte) (s : State) (i : Instr), (i = .wrb d ∨ i = .rsb d) ∧ s.cfg.unit = .u0 ∧ s.cfg.dual = false :=
  ⟨0x00, adapter .u0 true false true, .rsb 0x00, by decide⟩
theorem witness_PortBWriteAndRestoreSetStatus_unit1 :
    ∃ (d : Byte) (s : State) (i : Instr), (i = .wrb d ∨ i = .rsb d) ∧ s.cfg.unit = .u1 :=
  ⟨0x28, adapter .u1 true true true, .rsb 0x28, by decide⟩
theorem witness_SecondDriveStatusOnlyFromDualUnitZero :
    ∃ (i : Instr) (s t : State), exec i s = .next t ∧ s.cfg.unit = .u0 ∧ s.cfg.dual = true ∧
      t.status.slot1 ≠ s.status.slot1 :=
  ⟨.wrb 0x28, adapter .u0 true true true, _, rfl, by decide⟩
theorem witness_SecondDriveStatusOnlyFromDualUnitZero_unit1 :
    ∃ (i : Instr) (s t : State), exec i s = .next t ∧ s.cfg.unit = .u1 :=
  ⟨.wrb 0x28, adapter .u1 true true true, _, rfl, by decide⟩
theorem witness_PortWritesAreIdempotent :
    ∃ (d : Byte) (i : Instr), i ∈ [Instr.wra d, .rsa d, .wrb d, .rsb d] := ⟨0x80, .rsb 0x80, by decide⟩
theorem witness_DirectionBytesDoNotEnterWrites :
    ∃ (d : Byte) (i : Instr), i ∈ [Instr.wra d, .rsa d, .wrb d, .rsb d] := ⟨0x01, .rsa 0x01, by decide⟩
theorem witness_PortAWriteFrame :
    ∃ (d : Byte) (s t : State) (i : Instr), (i = .wra d ∨ i = .rsa d) ∧ exec i s = .next t :=
  ⟨0x1E, adapter .u0 true true true, _, .rsa 0x1E, .inr rfl, rfl⟩
theorem witness_PortBWriteFrame :
    ∃ (d : Byte) (s t : State) (i : Instr), (i = .wrb d ∨ i = .rsb d) ∧ exec i s = .next t :=
  ⟨0x38, adapter .u0 true true true, _, .wrb 0x38, .inl rfl, rfl⟩
theorem witness_PortAReadReturnsLinesAndLatch : ∃ k, k < 8 ∧ (0x1F#8).getLsbD k = false := ⟨7, by decide⟩
theorem witness_PortBReadReturnsLinesAndAddress : ∃ k, k < 8 ∧ (0x38#8).getLsbD k = false := ⟨0, by decide⟩
theorem witness_MergeSelectsByDirection_output : ∃ (dir : Byte) (k : Nat), k < 8 ∧ dir.getLsbD k = true :=
  ⟨0x80, 7, by decide⟩
theorem witness_MergeSelectsByDirection_input : ∃ (dir : Byte) (k : Nat), k < 8 ∧ dir.getLsbD k = false :=
  ⟨0xFE, 0, by decide⟩
theorem witness_ReadsMutateNothing :
    ∃ s u : State, s ≠ u ∧ u.lines = s.lines ∧ u.regs = s.regs ∧ u.cfg.unit = s.cfg.unit :=
  ⟨adapter .u1 true true true, adapter .u1 false true false, by decide⟩
theorem witness_ResetIgnoresTheEarlierState :
    ∃ s u : State, s ≠ u ∧ s.cfg = u.cfg ∧ s.lines.atn = u.lines.atn ∧ s.others = u.others ∧ s.ic = u.ic ∧
      (s.cfg.unit = .u0 → s.status.slot1 = u.status.slot1) ∧
      (s.cfg.unit = .u1 → s.status.slot0 = u.status.slot0 ∧ s.status.slot1.isSome = u.status.slot1.isSome) ∧
      s.cfg.combine = .solo ∧ s.cfg.coreReset.DDRA = 0 :=
  ⟨adapter .u0 true true true,
    { adapter .u0 true true false with regs := { ORA := 1, DDRA := 2, ORB := 3, DDRB := 4 } }, by decide⟩
theorem witness_ResetIgnoresTheEarlierState_unit1 :
    ∃ s u : State, s ≠ u ∧ s.cfg = u.cfg ∧ s.lines.atn = u.lines.atn ∧ s.others = u.others ∧ s.ic = u.ic ∧
      s.cfg.unit = .u1 ∧ s.status.slot0 = u.status.slot0 ∧ s.status.slot1.isSome = u.status.slot1.isSome ∧
      s.cfg.combine = .shared ∧ s.cfg.coreReset.DDRA = 0 :=
  ⟨sharedAdapter .u1 true, { sharedAdapter .u1 false with status := { slot0 := 0, slot1 := some 1 } }, by decide⟩
theorem witness_ResetStateIsConstructionThenRst_unit0 : ∃ raw : RawConfig, raw.wf = true ∧ raw.unit = 0 ∧ raw.slot1 = true :=
  ⟨rawConfig 0 true true, by decide⟩
theorem witness_ResetStateIsConstructionThenRst_unit1 : ∃ raw : RawConfig, raw.wf = true ∧ raw.unit = 1 ∧ raw.slot1 = false :=
  ⟨rawConfig 1 true false, by decide⟩
theorem witness_ResetFrame :
    ∃ s t : State, exec .rst s = .next t ∧ s.cfg.unit = .u0 := ⟨adapter .u0 true true true, _, rfl, rfl⟩
theorem witness_ResetFrame_unit1 :
    ∃ s t : State, exec .rst s = .next t ∧ s.cfg.unit = .u1 := ⟨adapter .u1 true true true, _, rfl, rfl⟩
theorem witness_ResetWhileAtnSignalsRise : ∃ s : State, s.cfg.legacy = true ∧ s.lines.atn = true :=
  ⟨adapter .u0 true true true, by decide⟩
theorem witness_NonLegacyAtnDoesNothing : ∃ s : State, s.cfg.legacy = false := ⟨adapter .u0 false true false, rfl⟩
theorem witness_LegacyAtnTransition : ∃ s : State, s.cfg.legacy = true := ⟨adapter .u0 true true false, rfl⟩
theorem witness_LatchIsTheLastAppliedAtnState_atn : ∃ s : State, s.cfg.legacy = true :=
  ⟨adapter .u1 true true true, rfl⟩
theorem witness_LatchIsTheLastAppliedAtnState_other :
    ∃ s t : State, s.atnActive = false ∧ step s = .next t ∧
      ∀ w clk rest b, s.inputs = .op w clk :: rest → decode w ≠ .ok (.atn b) :=
  ⟨{ adapter .u0 true true false with inputs := [.op 0x101C 9] }, _, rfl, rfl, by
    intro w clk rest b h
    cases h
    decide +revert⟩
theorem witness_LatchIsTheLastAppliedAtnState_kept :
    ∃ s t : State, s.atnActive = true ∧ step s = .next t ∧
      ∀ w clk rest i, s.inputs = .op w clk :: rest → decode w = .ok i → i ≠ .rst ∧ ∀ b, i ≠ .atn b :=
  ⟨waiting [.op 0x101C 9], _, rfl, rfl, by
    intro w clk rest i h hd
    cases h
    cases (show decode 0x101C = .ok (.wra 0x1C) by decide).symm.trans hd
    simp⟩
theorem witness_EdgeEventsCountTheChanges : ∃ s : State, s.cfg.legacy = true ∧ s.atnActive = true :=
  ⟨adapter .u0 true false true, by decide⟩
theorem witness_SourceSequenceOfAtnStates_set : ∃ s : State, s.cfg.legacy = true ∧ s.atnActive = true :=
  ⟨adapter .u1 true false true, by decide⟩
theorem witness_SourceSequenceOfAtnStates_clear : ∃ s : State, s.cfg.legacy = true ∧ s.atnActive = false :=
  ⟨adapter .u1 true false false, by decide⟩
theorem witness_SourceSequenceOfAtnStates_nonLegacy : ∃ s : State, s.cfg.legacy = false :=
  ⟨adapter .u1 false false false, by decide⟩

/-- A SOLO adapter between operations that meets the invariant: port A holds 0x1C, the latch is clear. -/
def settled : State :=
  { adapter .u0 true true false with
    outs := { nrfd := false, ndac := false, eoi := false, dav := false }
    lines := { atn := false, dav := false, eoi := false, nrfd := false, ndac := false }
    inputs := [.op 0x8100 9] }

theorem settled_inv : settled.Inv where
  config := rfl
  latch := fun h => absurd h (by decide)
  handshake := ⟨rfl, rfl⟩
  solo := fun _ => ⟨rfl, rfl, rfl, rfl⟩
  ordered := rfl
  foreign := rfl
  slot := rfl

theorem witness_RepeatedAtnMovesNoLine :
    ∃ s : State, s.cfg.legacy = true ∧ s.handshakeDerived ∧ s.lines.nrfd = s.busValue .nrfd s.outs.nrfd ∧
      s.lines.ndac = s.busValue .ndac s.outs.ndac :=
  ⟨settled, rfl, settled_inv.handshake, rfl, rfl⟩
theorem witness_LinesStayFormed :
    ∃ s t : State, s.linesFormed ∧ (∀ l b rest, s.inputs ≠ .env (.forceLine l b) :: rest) ∧ step s = .next t :=
  ⟨settled, _, ⟨rfl, rfl, rfl, rfl⟩, by simp [settled], rfl⟩
theorem witness_AtnFrame : ∃ s t : State, exec (.atn true) s = .next t := ⟨adapter .u0 true true false, _, rfl⟩
theorem witness_AtnLineAloneReachesOnlyReads :
    ∃ s : State, s.inputs = [.env (.atnLine false)] ∧ s.regs.DDRA.getLsbD 7 = false :=
  ⟨waiting [.env (.atnLine false)], by decide⟩
theorem witness_AtnLineAloneReachesOnlyReads_output :
    ∃ s : State, s.inputs = [.env (.atnLine false)] ∧ s.regs.DDRA.getLsbD 7 = true :=
  ⟨{ waiting [.env (.atnLine false)] with regs := { ORA := 0, DDRA := 0x80, ORB := 0, DDRB := 0 } }, by decide⟩
theorem witness_InterruptClockIsTheDeliveredOne : ∃ s : State, s.inputs = [.op 0x9100 100] :=
  ⟨waiting [.op 0x9100 100], rfl⟩
theorem witness_SourceIdIsRegisteredOnce_construct :
    ∃ raw init s, construct raw init = .next s := ⟨rawConfig 0 true true, someInit, _, rfl⟩
theorem witness_SourceIdIsRegisteredOnce_exec :
    ∃ s t : State, exec (.irq true) s = .next t := ⟨adapter .u0 true true true, _, rfl⟩
theorem witness_InterruptFrame :
    ∃ (b : Bool) (s t : State) (i : Instr), (i = .irq b ∨ i = .irr b) ∧ exec i s = .next t :=
  ⟨true, adapter .u0 true true true, _, .irr true, .inr rfl, rfl⟩
theorem witness_OnlyAtnAndResetWriteTheLatch_reset :
    ∃ s t : State, exec .rst s = .next t ∧ t.atnActive ≠ s.atnActive :=
  ⟨adapter .u0 false true true, _, rfl, by decide⟩
theorem witness_OnlyAtnAndResetWriteTheLatch_atn :
    ∃ s t : State, s.cfg.legacy = true ∧ exec (.atn false) s = .next t ∧ t.atnActive ≠ s.atnActive :=
  ⟨adapter .u0 true true true, _, rfl, rfl, by decide⟩
theorem witness_OutputLinesHaveTheseWritersOnly_handshake :
    ∃ s t : State, exec (.wra 0x1C) s = .next t ∧ t.outs.ndac ≠ s.outs.ndac :=
  ⟨adapter .u0 true true true, _, rfl, by decide⟩
theorem witness_OutputLinesHaveTheseWritersOnly_data :
    ∃ s t : State, exec .rst s = .next t ∧ t.outs.dav ≠ s.outs.dav :=
  ⟨adapter .u0 true true true, _, rfl, by decide⟩
theorem witness_ConfigurationAndAtnLineAreNotWritten :
    ∃ s t u : State, exec (.wra 0x00) s = .next t ∧ step (waiting [.op 0x7000 9]) = .next u :=
  ⟨adapter .u0 true true true, _, _, rfl, rfl⟩
theorem witness_AtMostOneEdgeAndNoInterruptCallBesideIt :
    ∃ s t : State, exec (.atn true) s = .next t ∧ edgesOf t.events = [.rise] :=
  ⟨adapter .u0 true true false, _, rfl, by decide⟩
theorem witness_EdgesAndSiblingRequestsOnlyFromLegacyAtn :
    ∃ s t : State, exec (.atn false) s = .next t ∧ edgesOf t.events = [.fall] :=
  ⟨adapter .u0 true true true, _, rfl, by decide⟩
theorem witness_StepKeepsTheInvariant : ∃ s t : State, s.Inv ∧ step s = .next t := ⟨settled, _, settled_inv, rfl⟩
theorem witness_ConstructionRefusesIllFormedConfigurations_unit :
    ∃ raw : RawConfig, raw.unit ≠ 0 ∧ raw.unit ≠ 1 := ⟨rawConfig 2 true true, by decide⟩
theorem witness_ConstructionRefusesIllFormedConfigurations_slot :
    ∃ raw : RawConfig, raw.unit = 0 ∧ raw.dual = true ∧ raw.slot1 = false := ⟨rawConfig 0 true false, by decide⟩
theorem witness_ConstructionRefusesIllFormedConfigurations_wf :
    ∃ raw : RawConfig, (raw.unit = 0 ∨ raw.unit = 1) ∧ (raw.unit = 0 → raw.dual = true → raw.slot1 = true) :=
  ⟨rawConfig 1 true false, by decide⟩

/-- One adapter of a context, with port A and B inputs. -/
def part (latch : Bool) : AdapterPart where
  settings := (adapter .u0 true true latch).cfg.toAdapterSettings
  atnActive := latch
  outs := { nrfd := true, ndac := false, eoi := true, dav := true }
  regs := { ORA := 0x1C, DDRA := 0x00, ORB := 0x28, DDRB := 0x00 }
  ic := { level := false, clk := 0 }
  events := []
  returned := []

/-- A context of two adapters with given inputs waiting. -/
def context (l : List ContextInput) : Context :=
  Context.form
    { lines := { atn := true, dav := true, eoi := true, nrfd := true, ndac := false }
      others := [⟨.other ⟨7⟩, .dav, true⟩]
      status := { slot0 := 0, slot1 := some 2 }
      inputs := l
      a0 := part true
      a1 := part false }

theorem test_context_same_contributions :   -- R159: one Bus Line Set, seen from either adapter
    allContributions (.unit .u0) .eoi true ((context []).contributionsBeside .u0) =
      allContributions (.unit .u1) .eoi true ((context []).contributionsBeside .u1) := by decide
theorem test_context_teardown :   -- R173
    ((context [.op .u0 0x7000 1, .atnLine true, .op .u1 0x7000 2]).teardown .u1).inputs =
      [.op .u0 0x7000 1, .atnLine true] := by decide

/-- A Chip Core that answers a RISE with one assert at clock 100 and a FALL with nothing (95_test_vectors.md P3). -/
def riseCore : CoreEdge Unit where
  rel := fun _ e _ calls => calls = match e with
    | .rise => [⟨true, 100⟩]
    | .fall => []

theorem witness_InterruptFollowsEdge_property : riseRaisesInterrupt riseCore :=
  fun _ => ⟨⟨(), _, rfl⟩, fun _ _ h => ⟨100, h⟩⟩
theorem witness_InterruptFollowsEdge_state :
    ∃ s : State, s.cfg.legacy = true ∧ s.atnActive = false ∧ s.inputs = [.op 0x8100 9] :=
  ⟨settled, by decide⟩
theorem witness_InterruptFollowsEdge_none : ∃ s u : State, step s = .next u ∧ addedEdges s u = [] :=
  ⟨waiting [.op 0x101C 9], _, rfl, by decide⟩
theorem witness_LastWriterOfSecondStatusWins :
    ∃ c : Context, c.a0.settings.dual = true ∧ c.status.slot1.isSome = true := ⟨context [], rfl, rfl⟩
theorem witness_AdaptersShareOnlyBusAndStatus :
    ∃ c x : Context, c.inputs = [.op .u1 0x101C 9] ∧ c.step = .next x :=
  ⟨context [.op .u1 0x101C 9], _, rfl, rfl⟩
theorem witness_LinesStayFormed_context :
    ∃ c x : Context, c.linesFormed ∧
      (∀ l b rest, c.inputs ≠ .forceLine l b :: rest) ∧ c.step = .next x :=
  ⟨context [.contribute ⟨7⟩ .nrfd false], _, ⟨rfl, rfl, rfl, rfl⟩,
    by simp [context, Context.form], rfl⟩
theorem witness_LinesStayFormed_construct : ∃ raw init s, construct raw init = .next s :=
  ⟨rawConfig 1 true false, someInit, _, rfl⟩
theorem witness_BusWriteIsVisibleAtOnce :
    ∃ c : Context, (c.part .u1).regs.DDRA.getLsbD 6 = false ∧
      (c.part .u1).regs.DDRA.getLsbD 5 = false ∧ (c.part .u1).regs.DDRB.getLsbD 7 = false ∧
      (c.part .u1).regs.DDRB.getLsbD 6 = false ∧ (c.part .u1).regs.DDRB.getLsbD 0 = false :=
  ⟨context [], rfl, rfl, rfl, rfl, rfl⟩
theorem witness_BusWriteIsVisibleAtOnce_outputs :
    outputTo (part true).outs .eoi = some true ∧ outputTo (part true).outs .ndac = some false := by decide
theorem witness_AtnChangeReachesBothAdapters :
    ∃ c : Context, c.inputs = atnInputs true .u1 5 6 ++ [.op .u0 0x7000 7] :=
  ⟨context (atnInputs true .u1 5 6 ++ [.op .u0 0x7000 7]), rfl⟩

end Sys2Proof.Tests
end

/-! PROOFS. The latch `atnActive`: what each operation and each step does to it (10_state.md R23, R24). -/

namespace Sys2Proof.Machine

@[simp] theorem State.portAWrite_atnActive (d : Byte) (s : State) : (s.portAWrite d).atnActive = s.atnActive := by
  rw [State.portAWrite_eq]

@[simp] theorem State.portBWrite_atnActive (d : Byte) (s : State) : (s.portBWrite d).atnActive = s.atnActive := by
  obtain ⟨st, ev, h⟩ := s.portBWrite_fields d
  rw [h]

@[simp] theorem State.atnTransition_atnActive (b : Bool) (s : State) : (s.atnTransition b).atnActive = b := by
  rw [State.atnTransition_eq]

@[simp] theorem State.adapterReset_atnActive (s : State) : s.adapterReset.atnActive = false := by
  rw [State.adapterReset_eq]

/-- RST always completes (70_reset_and_hazards.md R170). -/
theorem exec_rst (s : State) : exec .rst s = .next s.coreReset.adapterReset := rfl

/-- ATN on a legacy adapter always completes, with the transition of 41_atn_edge.md R101. -/
theorem exec_atn_of_legacy {s : State} (h : s.cfg.legacy = true) (b : Bool) :
    exec (.atn b) s = .next (s.atnTransition b) := by
  simp [exec, execAtn, h]

theorem exec_rst_clears_latch (s : State) : ∃ t, exec .rst s = .next t ∧ t.atnActive = false :=
  ⟨_, exec_rst s, by simp⟩

theorem exec_atn_loads_latch (b : Bool) (s : State) (h : s.cfg.legacy = true) :
    ∃ t, exec (.atn b) s = .next t ∧ t.atnActive = b :=
  ⟨_, exec_atn_of_legacy h b, by simp⟩

/-- What an operation can do to the latch: RST clears it, a legacy ATN loads its argument, every other one keeps it. -/
theorem exec_latch_cases {i : Instr} {s t : State} (h : exec i s = .next t) :
    (i = .rst ∧ t.atnActive = false) ∨
    (s.cfg.legacy = true ∧ ∃ b, i = .atn b ∧ t.atnActive = b) ∨
    t.atnActive = s.atnActive := by
  obtain ⟨d, -, rfl⟩ | ⟨d, -, rfl⟩ | ⟨-, rfl⟩ | ⟨-, rfl⟩ | ⟨rfl, rfl⟩ | ⟨b, rfl, hl, rfl⟩ | ⟨b, -, -, rfl⟩ |
    ⟨-, rfl⟩ | ⟨-, rfl⟩ | ⟨b, -, rfl⟩ := exec_cases h
  -- RST and the legacy ATN are the two writers; the other eight cases update other fields.
  case inr.inr.inr.inr.inl => exact .inl ⟨rfl, by simp⟩
  case inr.inr.inr.inr.inr.inl => exact .inr (.inl ⟨hl, b, rfl, by simp⟩)
  all_goals exact .inr (.inr (by simp))

/-- What a step can do to the latch: it runs RST, which clears it, or an ATN operation, or it keeps the latch. The value of
the ATN line plays no part. -/
theorem step_latch_cases {s t : State} (h : step s = .next t) :
    (∃ w clk rest, s.inputs = .op w clk :: rest ∧ decode w = .ok .rst ∧ t.atnActive = false) ∨
    (∃ w clk rest b, s.inputs = .op w clk :: rest ∧ decode w = .ok (.atn b)) ∨
    t.atnActive = s.atnActive := by
  obtain ⟨-, rfl⟩ | ⟨w, clk, rest, i, hin, hd, hx⟩ | ⟨e, rest, -, rfl⟩ := step_cases h
  · exact .inr (.inr rfl)
  · obtain ⟨rfl, hf⟩ | ⟨-, b, rfl, -⟩ | hkeep := exec_latch_cases hx
    · exact .inl ⟨w, clk, rest, hin, hd, hf⟩
    · exact .inr (.inl ⟨w, clk, rest, b, hin, hd⟩)
    · exact .inr (.inr (by simpa using hkeep))
  · exact .inr (.inr (by simp))

/-- Settles O48: an operation that changes the latch falls under one of the two writing cases of `exec_latch_cases`. -/
theorem onlyAtnAndResetWriteTheLatch : Obligations.OnlyAtnAndResetWriteTheLatch := by
  refine ⟨exec_rst_clears_latch, exec_atn_loads_latch, fun i s t h hne => ?_⟩
  obtain ⟨hi, -⟩ | ⟨hl, b, hi, -⟩ | hkeep := exec_latch_cases h
  · exact .inl hi
  · exact .inr ⟨hl, b, hi⟩
  · exact absurd hkeep hne

/-- Settles O35, both step clauses from `step_latch_cases`. -/
theorem latchIsTheLastAppliedAtnState : Obligations.LatchIsTheLastAppliedAtnState := by
  refine ⟨exec_atn_loads_latch, exec_rst_clears_latch, fun s t h hother => ?_, fun s t hf h hnoAtn => ?_⟩
  · obtain ⟨w, clk, rest, hin, hd, -⟩ | ⟨w, clk, rest, b, hin, hd⟩ | hkeep := step_latch_cases h
    · exact absurd rfl (hother w clk rest .rst hin hd).1
    · exact absurd rfl ((hother w clk rest (.atn b) hin hd).2 b)
    · exact hkeep
  · obtain ⟨-, -, -, -, -, hclear⟩ | ⟨w, clk, rest, b, hin, hd⟩ | hkeep := step_latch_cases h
    · exact hclear
    · exact absurd hd (hnoAtn w clk rest b hin)
    · exact hkeep.trans hf

end Sys2Proof.Machine

/-! PROOFS. `DERIVE` reads three bits of its byte and the latch, and writes neither (40_handshake.md R90, R92). -/

namespace Sys2Proof.Machine

@[simp] theorem State.derive_cfg (p : Byte) (s : State) : (s.derive p).cfg = s.cfg := by
  rw [State.derive_eq]

@[simp] theorem State.derive_others (p : Byte) (s : State) : (s.derive p).others = s.others := by
  rw [State.derive_eq]

@[simp] theorem State.derive_atnActive (p : Byte) (s : State) : (s.derive p).atnActive = s.atnActive := by
  rw [State.derive_eq]

theorem State.derive_outs (p : Byte) (s : State) :
    (s.derive p).outs = { s.outs with nrfd := nrfdOf s.atnActive p, ndac := ndacOf s.atnActive p } := by
  rw [State.derive_eq]

theorem State.derive_lines (p : Byte) (s : State) :
    (s.derive p).lines =
      { s.lines with
        nrfd := s.busValue .nrfd (nrfdOf s.atnActive p)
        ndac := s.busValue .ndac (ndacOf s.atnActive p) } := by
  rw [State.derive_eq]

/-- What a contribution makes of its line is the same after `DERIVE`, which keeps the configuration and the other adapters'
contributions. -/
theorem State.derive_busValue (p : Byte) (s : State) (l : BusLine) (own : Bool) :
    (s.derive p).busValue l own = s.busValue l own :=
  State.busValue_congr (s.derive_cfg p) (s.derive_others p) l own

/-- Bytes with equal low three bits agree on each of them. -/
theorem bit_eq_of_low_three_eq {p q : Byte} (h : p.extractLsb' 0 3 = q.extractLsb' 0 3) {k : Nat} (hk : k < 3) :
    bit k p = bit k q := by
  have hbit := congrArg (·.getLsbD k) h
  simpa [bit, BitVec.getLsbD_extractLsb', hk] using hbit

theorem nrfdOf_eq_of_low_three_eq (latch : Bool) {p q : Byte} (h : p.extractLsb' 0 3 = q.extractLsb' 0 3) :
    nrfdOf latch p = nrfdOf latch q := by
  rw [nrfdOf, nrfdOf, rfdo, rfdo, bit_eq_of_low_three_eq h (k := 0) (by decide),
    bit_eq_of_low_three_eq h (k := 2) (by decide)]

theorem ndacOf_eq_of_low_three_eq (latch : Bool) {p q : Byte} (h : p.extractLsb' 0 3 = q.extractLsb' 0 3) :
    ndacOf latch p = ndacOf latch q := by
  rw [ndacOf, ndacOf, daco, daco, bit_eq_of_low_three_eq h (k := 0) (by decide),
    bit_eq_of_low_three_eq h (k := 1) (by decide)]

/-- A second `DERIVE` finds the latch the first one found, so it contributes the same again. -/
theorem State.derive_derive_outs (p : Byte) (s : State) : ((s.derive p).derive p).outs = (s.derive p).outs := by
  rw [State.derive_outs p (s.derive p), State.derive_atnActive, State.derive_outs]

/-- A second `DERIVE` forms both lines from the same contributions. -/
theorem State.derive_derive_lines (p : Byte) (s : State) : ((s.derive p).derive p).lines = (s.derive p).lines := by
  rw [State.derive_lines p (s.derive p), State.derive_atnActive, State.derive_busValue, State.derive_busValue,
    State.derive_lines]

/-- Settles O12: the equations read bits 0 to 2 and the latch only, and `DERIVE` leaves all that it reads as it was. -/
theorem deriveUsesThreeBitsAndTheLatch : Obligations.DeriveUsesThreeBitsAndTheLatch := by
  refine ⟨fun p q s u hlow hlatch => ?_, fun p s => ⟨s.derive_derive_outs p, s.derive_derive_lines p⟩⟩
  simp only [State.derive_outs, hlatch]
  exact ⟨nrfdOf_eq_of_low_three_eq _ hlow, ndacOf_eq_of_low_three_eq _ hlow⟩

end Sys2Proof.Machine

/-! PROOFS. The ATN edge detector: no effect on a non-legacy adapter, one edge per change of the latch on a legacy one
(41_atn_edge.md R100, R102). -/

namespace Sys2Proof.Machine

/-- ATN on a non-legacy adapter completes and leaves the whole state as it is (41_atn_edge.md R100). -/
theorem exec_atn_of_nonLegacy {s : State} (h : s.cfg.legacy = false) (b : Bool) : exec (.atn b) s = .next s := by
  simp [exec, execAtn, h]

/-- Settles O33: both words of the row decode to ATN, which a non-legacy adapter answers with its own state. -/
theorem nonLegacyAtnDoesNothing : Obligations.NonLegacyAtnDoesNothing :=
  ⟨rfl, rfl, fun b _ h => exec_atn_of_nonLegacy h b⟩

/-- The edge that the detector finds, told by its argument (41_atn_edge.md R101). -/
theorem edgeOf_toList (prev new : Bool) :
    (edgeOf prev new).toList = if new = prev then [] else if new then [.rise] else [.fall] := by
  cases prev <;> cases new <;> rfl

/-- The detector finds one edge where the argument differs from the latch, and none elsewhere (R102). -/
theorem edgeOf_toList_length (prev new : Bool) : (edgeOf prev new).toList.length = if prev != new then 1 else 0 := by
  cases prev <;> cases new <;> rfl

@[simp] theorem State.atnTransition_cfg (b : Bool) (s : State) : (s.atnTransition b).cfg = s.cfg := by
  rw [State.atnTransition_eq]

/-- Of the events of a transition only the detector's is an edge event. -/
theorem State.edgesOf_atnTransition_events (b : Bool) (s : State) :
    edgesOf (s.atnTransition b).events = edgesOf s.events ++ (edgeOf s.atnActive b).toList := by
  rw [State.atnTransition_eq, edgesOf_append, edgesOf_append, edgesOf_signalled]
  simp [edgeKindOf]

/-- A sequence of ATN operations on a legacy adapter completes and adds an edge event at each position whose argument differs
from the latch value before it (R102): the first operation loads the latch, with which the second argument is compared. -/
theorem execAll_atn_counts_changes (bs : List Bool) (s : State) (h : s.cfg.legacy = true) :
    ∃ t, execAll (bs.map Instr.atn) s = .next t ∧
      (edgesOf t.events).length =
        (edgesOf s.events).length + ((s.atnActive :: bs).zip bs).countP (fun p => p.1 != p.2) := by
  induction bs generalizing s with
  | nil => exact ⟨s, rfl, rfl⟩
  | cons b bs ih =>
    obtain ⟨t, hrun, hcount⟩ := ih (s.atnTransition b) (by simpa using h)
    refine ⟨t, (execAll_cons (exec_atn_of_legacy h b)).trans hrun, ?_⟩
    rw [hcount, State.edgesOf_atnTransition_events, List.length_append, edgeOf_toList_length,
      State.atnTransition_atnActive, List.zip_cons_cons, List.countP_cons, Nat.add_assoc,
      Nat.add_comm (List.countP _ _)]

/-- Settles O36: one operation signals the edge of its transition, a sequence is `execAll_atn_counts_changes`. -/
theorem edgeEventsCountTheChanges : Obligations.EdgeEventsCountTheChanges := by
  refine ⟨fun b s h => ⟨_, exec_atn_of_legacy h b, ?_⟩, execAll_atn_counts_changes⟩
  rw [State.edgesOf_atnTransition_events, edgeOf_toList]

end Sys2Proof.Machine

/-! PROOFS. The port writes and restores: WRA and RSA publish one set of four contributions (42_port_write.md R111), and only a
unit-0 adapter of a dual unit writes the other drive's status (R114). -/

namespace Sys2Proof

/-- The op code of a word with a byte field is the upper half of its upper byte. -/
theorem fieldOp_encodeByte (u d : Byte) : fieldOp (encodeByte u d) = u.extractLsb' 4 4 := by
  apply BitVec.eq_of_getLsbD_eq
  intro k hk
  have hout : ¬ 12 + k < 8 := by omega
  have hsub : 12 + k - 8 = 4 + k := by omega
  rw [fieldOp, encodeByte, BitVec.getLsbD_extractLsb', BitVec.getLsbD_append, BitVec.getLsbD_extractLsb']
  simp [hk, hout, hsub]

theorem decode_encode_rsa (d : Byte) : decode (encode (.rsa d)) = .ok (.rsa d) := by
  have hop : fieldOp (encode (.rsa d)) = 0x2#4 := fieldOp_encodeByte _ d
  have hd : fieldD (encode (.rsa d)) = d := fieldD_encodeByte _ d
  simp only [decode, hop, hd]
  exact selectRow_ok_iff.mpr ⟨Laws.RowSelected.rsa d, rfl⟩

end Sys2Proof

namespace Sys2Proof.Machine

/-- WRA and RSA always complete, with "identical logic" (R110, R111). -/
theorem exec_portAWrite {i : Instr} {d : Byte} (hi : i = .wra d ∨ i = .rsa d) (s : State) :
    exec i s = .next ((s.coreStoreA d).portAWrite d) := by
  obtain rfl | rfl := hi <;> rfl

/-- WRB and RSB always complete, in the same way (R112, R113). -/
theorem exec_portBWrite {i : Instr} {d : Byte} (hi : i = .wrb d ∨ i = .rsb d) (s : State) :
    exec i s = .next ((s.coreStoreB d).portBWrite d) := by
  obtain rfl | rfl := hi <;> rfl

/-- The contributions of a port-A write depend on the byte and the latch alone. -/
theorem State.portAWrite_outs (d : Byte) (s : State) :
    (s.portAWrite d).outs =
      { nrfd := nrfdOf s.atnActive d, ndac := ndacOf s.atnActive d, eoi := eoiOf d, dav := davOf d } := by
  rw [State.portAWrite_eq]

/-- A port-A write publishes the four contributions it leaves, in the order of R110. -/
theorem State.portAWrite_events (d : Byte) (s : State) :
    (s.portAWrite d).events = s.events ++
      [.setNRFD (s.portAWrite d).outs.nrfd, .setNDAC (s.portAWrite d).outs.ndac,
        .setEOI (s.portAWrite d).outs.eoi, .setDAV (s.portAWrite d).outs.dav] := by
  rw [State.portAWrite_eq]

/-- Settles O14: RSA runs as WRA, whose contributions are a function of the byte and the latch. -/
theorem portARestoreRoundTrip : Obligations.PortARestoreRoundTrip := by
  intro d s u
  have hrsa := exec_portAWrite (i := .rsa d) (.inr rfl)
  have hwra := exec_portAWrite (i := .wra d) (.inl rfl)
  have houts := (u.coreStoreA d).portAWrite_outs d
  refine ⟨decode_encode_rsa d, (hrsa u).trans (hwra u).symm, _, _, hrsa u, State.portAWrite_events d _, by simp,
    congrArg Outputs.nrfd houts, congrArg Outputs.ndac houts, congrArg Outputs.eoi houts, congrArg Outputs.dav houts,
    rfl, by simp, by simp, fun hlatch => ⟨_, hwra s, ?_⟩⟩
  simp [State.portAWrite_outs, hlatch]

theorem servesTwo_iff (c : AdapterConfig) : servesTwo c = true ↔ c.unit = .u0 ∧ c.dual = true := by
  simp [servesTwo]

theorem primaryStatus_getLsbD_zero (d : Byte) : (primaryStatus d).getLsbD 0 = d.getLsbD 4 := by
  simp [primaryStatus]

theorem primaryStatus_getLsbD_one (d : Byte) : (primaryStatus d).getLsbD 1 = d.getLsbD 5 := by
  simp [primaryStatus]

theorem secondaryStatus_getLsbD_zero (d : Byte) : (secondaryStatus d).getLsbD 0 = d.getLsbD 3 := by
  unfold secondaryStatus bit
  cases d.getLsbD 3 <;> cases d.getLsbD 5 <;> rfl

theorem secondaryStatus_getLsbD_one (d : Byte) : (secondaryStatus d).getLsbD 1 = d.getLsbD 5 := by
  unfold secondaryStatus bit
  cases d.getLsbD 3 <;> cases d.getLsbD 5 <;> rfl

@[simp] theorem State.portAWrite_status (d : Byte) (s : State) : (s.portAWrite d).status = s.status := by
  rw [State.portAWrite_eq]

@[simp] theorem State.atnTransition_status (b : Bool) (s : State) : (s.atnTransition b).status = s.status := by
  rw [State.atnTransition_eq]

@[simp] theorem State.adapterReset_status (s : State) :
    s.adapterReset.status = setSlot s.status s.cfg.unit bothIndicatorsActive := by
  rw [State.adapterReset_eq]

/-- What an operation can do to the status fields: WRB and RSB in a dual unit of unit 0 may write both, any other write goes
to the adapter's own slot. -/
theorem exec_status_cases {i : Instr} {s t : State} (h : exec i s = .next t) :
    (s.cfg.unit = .u0 ∧ s.cfg.dual = true ∧ ∃ d, i = .wrb d ∨ i = .rsb d) ∨
    (∃ v, t.status = setSlot s.status s.cfg.unit v) ∨
    t.status = s.status := by
  obtain ⟨d, -, rfl⟩ | ⟨d, hi, rfl⟩ | ⟨-, rfl⟩ | ⟨-, rfl⟩ | ⟨-, rfl⟩ | ⟨b, -, -, rfl⟩ | ⟨b, -, -, rfl⟩ |
    ⟨-, rfl⟩ | ⟨-, rfl⟩ | ⟨b, -, rfl⟩ := exec_cases h
  -- The port-B writes and RST write status fields; the other eight cases update other fields.
  case inr.inl =>
    cases htwo : servesTwo s.cfg with
    | true =>
      obtain ⟨hu, hdual⟩ := (servesTwo_iff s.cfg).mp htwo
      exact .inl ⟨hu, hdual, d, hi⟩
    | false =>
      refine .inr (.inl ⟨primaryStatus d, ?_⟩)
      rw [State.portBWrite_one d (s.coreStoreB d) htwo]
      rfl
  case inr.inr.inr.inr.inl => exact .inr (.inl ⟨bothIndicatorsActive, by simp⟩)
  all_goals exact .inr (.inr (by simp))

/-- Settles O18: the bits of both codes in `portBWrite_two`, and the frame of the other slot from `exec_status_cases`. -/
theorem secondDriveStatusOnlyFromDualUnitZero : Obligations.SecondDriveStatusOnlyFromDualUnitZero := by
  refine ⟨fun d s i hi hu hdual => ?_, fun i s t h => ?_⟩
  · have htwo : servesTwo (s.coreStoreB d).cfg = true := (servesTwo_iff s.cfg).mpr ⟨hu, hdual⟩
    rw [exec_portBWrite hi, State.portBWrite_two d _ htwo]
    refine ⟨_, secondaryStatus d, rfl, rfl, rfl, rfl, secondaryStatus_getLsbD_zero d, secondaryStatus_getLsbD_one d,
      primaryStatus_getLsbD_zero d, primaryStatus_getLsbD_one d, ?_⟩
    rintro rfl
    exact ⟨rfl, rfl⟩
  · obtain ⟨hu, hdual, hi⟩ | ⟨v, hv⟩ | hkeep := exec_status_cases h
    · exact ⟨fun _ _ => ⟨hdual, hi⟩, by simp [hu]⟩
    · constructor
      · intro hu hne
        simp [hv, hu] at hne
      · intro hu
        simp [hv, hu]
    · exact ⟨fun _ hne => absurd (congrArg DriveStatus.slot1 hkeep) hne, fun _ => congrArg DriveStatus.slot0 hkeep⟩

end Sys2Proof.Machine

/-! PROOFS. The port reads: RDA and RDB answer one byte, the merge of a synthesized byte with the port's latch, told bit by bit
(43_port_read.md R130 to R133). -/

namespace Sys2Proof.Machine

/-- RDA always completes and adds its byte to the returned bytes (R130). -/
theorem exec_rda (s : State) : exec .rda s = .next (s.reply s.portAByte) := rfl

/-- RDB always completes and adds its byte to the returned bytes (R131). -/
theorem exec_rdb (s : State) : exec .rdb s = .next (s.reply s.portBByte) := rfl

/-- Each bit of a merge, chosen by the direction bit at its place (R132). -/
theorem merge_getLsbD (synth latch dir : Byte) {k : Nat} (hk : k < 8) :
    (merge synth latch dir).getLsbD k = if dir.getLsbD k then latch.getLsbD k else synth.getLsbD k := by
  rw [merge, BitVec.getLsbD_or, BitVec.getLsbD_and, BitVec.getLsbD_and, BitVec.getLsbD_not]
  cases dir.getLsbD k <;> simp [hk]

theorem merge_getLsbD_of_output (synth latch : Byte) {dir : Byte} {k : Nat} (hk : k < 8) (h : dir.getLsbD k = true) :
    (merge synth latch dir).getLsbD k = latch.getLsbD k := by
  rw [merge_getLsbD synth latch dir hk, if_pos h]

theorem merge_getLsbD_of_input (synth latch : Byte) {dir : Byte} {k : Nat} (hk : k < 8) (h : dir.getLsbD k = false) :
    (merge synth latch dir).getLsbD k = synth.getLsbD k := by
  rw [merge_getLsbD synth latch dir hk, if_neg (by simp [h])]

/-- Clearing a bit leaves the other bits as they are. -/
theorem clearBit_getLsbD (k : Nat) (s : Byte) (j : Nat) :
    (clearBit k s).getLsbD j = if j = k then false else s.getLsbD j := by
  have hmask : (1#8 <<< k).getLsbD j = (decide (k < 8) && decide (k = j)) := BitVec.getLsbD_twoPow k j
  rw [clearBit, BitVec.getLsbD_and, BitVec.getLsbD_not, hmask]
  obtain hj | hj := Nat.lt_or_ge j 8
  · split <;> simp_all [eq_comm]
  · simp [BitVec.getLsbD_of_ge s j hj]

theorem clearBitIf_getLsbD (c : Bool) (k : Nat) (s : Byte) (j : Nat) :
    (clearBitIf c k s).getLsbD j = if j = k then !c && s.getLsbD j else s.getLsbD j := by
  cases c <;> simp [clearBitIf, clearBit_getLsbD]

/-- The bits of the byte that stands for "all bits set" (R130, R131). -/
theorem allOnes_getLsbD {k : Nat} (hk : k < 8) : (0xFF#8).getLsbD k = true := by
  revert k
  decide

/-- Each bit of the synthesized byte of port A: bit 7 is the ATN line itself, bits 6 and 5 are DAV and EOI inverted (R130). -/
theorem synthPortA_getLsbD (lines : LineValues) {k : Nat} (hk : k < 8) :
    (synthPortA lines).getLsbD k =
      if k = 7 then lines.atn else if k = 6 then !lines.dav else if k = 5 then !lines.eoi else true := by
  simp only [synthPortA, clearBitIf_getLsbD, allOnes_getLsbD hk]
  split_ifs <;> simp_all

/-- Each bit of the synthesized byte of port B: NRFD and NDAC inverted, and the device address in the low three bits (R131). -/
theorem synthPortB_getLsbD (unit : UnitNo) (lines : LineValues) {k : Nat} (hk : k < 8) :
    (synthPortB unit lines).getLsbD k =
      if k = 7 then !lines.nrfd else if k = 6 then !lines.ndac else if k = 2 then false else if k = 1 then false
      else if k = 0 then decide (unit ≠ .u0) else true := by
  simp only [synthPortB, clearBit_getLsbD, clearBitIf_getLsbD, allOnes_getLsbD hk, beq_eq_decide]
  split_ifs <;> simp_all

/-- A port-A read depends on the lines and the register view alone (R133). -/
theorem State.portAByte_congr {s u : State} (hlines : u.lines = s.lines) (hregs : u.regs = s.regs) :
    u.portAByte = s.portAByte := by
  rw [State.portAByte, State.portAByte, hlines, hregs]

/-- A port-B read depends on the lines, the register view and the unit alone (R133). -/
theorem State.portBByte_congr {s u : State} (hlines : u.lines = s.lines) (hregs : u.regs = s.regs)
    (hunit : u.cfg.unit = s.cfg.unit) : u.portBByte = s.portBByte := by
  rw [State.portBByte, State.portBByte, hlines, hregs, hunit]

/-- Settles O25: the formula is the definition of `merge`, its bits are `merge_getLsbD`. -/
theorem mergeSelectsByDirection : Obligations.MergeSelectsByDirection :=
  ⟨fun _ _ _ => rfl,
    fun synth latch _ _ hk => ⟨merge_getLsbD_of_output synth latch hk, merge_getLsbD_of_input synth latch hk⟩,
    fun s => ⟨exec_rda s, exec_rdb s⟩⟩

/-- Settles O23: the bits of the merge, and of the byte synthesized from the lines where the direction is input. -/
theorem portAReadReturnsLinesAndLatch : Obligations.PortAReadReturnsLinesAndLatch := by
  refine ⟨rfl, fun s => ⟨s.portAByte, exec_rda s, fun k hk => ?_⟩⟩
  rw [State.portAByte, merge_getLsbD _ _ _ hk, synthPortA_getLsbD s.lines hk]

/-- Settles O24: the bits of the merge, and of the byte synthesized from lines and address where the direction is input. -/
theorem portBReadReturnsLinesAndAddress : Obligations.PortBReadReturnsLinesAndAddress := by
  refine ⟨rfl, fun s => ⟨s.portBByte, exec_rdb s, fun k hk => ?_⟩⟩
  rw [State.portBByte, merge_getLsbD _ _ _ hk, synthPortB_getLsbD s.cfg.unit s.lines hk]

/-- Settles O26: a read only adds its byte, which is a function of the named parts of the state. -/
theorem readsMutateNothing : Obligations.ReadsMutateNothing := by
  rintro s i (rfl | rfl)
  · refine ⟨s.portAByte, exec_rda s, fun u hlines hregs _ => ?_⟩
    rw [← State.portAByte_congr hlines hregs]
    exact exec_rda u
  · refine ⟨s.portBByte, exec_rdb s, fun u hlines hregs hunit => ?_⟩
    rw [← State.portBByte_congr hlines hregs (hunit rfl)]
    exact exec_rdb u

end Sys2Proof.Machine

/-! PROOFS. The encoding: a word decodes to an operation exactly if it is that operation's word, and the words of no row are
refused by reason (30_encoding.md R71 to R75). -/

namespace Sys2Proof

open Laws (rowMask rowMatch)

/-- The row that an operation's word selects is the operation's own, with the operands read back from the word's fields. -/
theorem decode_encode_eq_selectRow (i : Instr) :
    decode (encode i) = selectRow (encode i) (rowMask i) (rowMatch i) i := by
  cases i with
  | wra d | rsa d | wrb d | rsb d =>
    simp only [decode, encode, fieldOp_encodeByte, fieldD_encodeByte]
    rfl
  | rda | rdb | rst => rfl
  | atn b | irq b | irr b => cases b <;> rfl

/-- Every operation's word matches the operation's row (R72). -/
theorem encode_masked (i : Instr) : encode i &&& rowMask i = rowMatch i := by
  cases i with
  | wra d => exact Laws.RowSelected.wra d
  | rsa d => exact Laws.RowSelected.rsa d
  | wrb d => exact Laws.RowSelected.wrb d
  | rsb d => exact Laws.RowSelected.rsb d
  | rda => exact Laws.RowSelected.rda
  | rdb => exact Laws.RowSelected.rdb
  | rst => exact Laws.RowSelected.rst
  | atn b => exact Laws.RowSelected.atn b
  | irq b => exact Laws.RowSelected.irq b
  | irr b => exact Laws.RowSelected.irr b

theorem decode_encode (i : Instr) : decode (encode i) = .ok i := by
  rw [decode_encode_eq_selectRow]
  exact selectRow_ok_iff.mpr ⟨encode_masked i, rfl⟩

/-- Settles O2: an operation's word selects the operation's row, which reads the operands back. -/
theorem encodeThenDecodeReturnsTheOperation : Obligations.EncodeThenDecodeReturnsTheOperation := decode_encode

/-- A word that the mask of a byte row sends to `u` and zeros has `u` as upper byte; the rest is its own byte field. -/
theorem encodeByte_fieldD_of_masked {w : OpWord} {u : Byte} (h : w &&& 0xFF00#16 = u ++ 0#8) :
    encodeByte u (fieldD w) = w := by
  apply BitVec.eq_of_getLsbD_eq
  intro k hk
  have hbit := congrArg (·.getLsbD k) h
  simp only [BitVec.getLsbD_and, BitVec.getLsbD_append] at hbit
  rw [encodeByte, fieldD, BitVec.getLsbD_append, BitVec.getLsbD_extractLsb']
  interval_cases k <;> simp_all

/-- A word that the mask of a boolean row sends to `op` and zeros has the op code `op`; the rest is its own boolean field. -/
theorem encodeBool_fieldB_of_masked {w : OpWord} {op : BitVec 4} (h : w &&& 0xFEFF#16 = op ++ 0#12) :
    encodeBool op (fieldB w) = w := by
  apply BitVec.eq_of_getLsbD_eq
  intro k hk
  have hbit := congrArg (·.getLsbD k) h
  simp only [BitVec.getLsbD_and, BitVec.getLsbD_append] at hbit
  simp only [encodeBool, fieldB, BitVec.getLsbD_append]
  interval_cases k <;> simp_all

/-- A word that the mask of a row without operand leaves is the row's match. -/
theorem eq_of_masked {w m : OpWord} (h : w &&& 0xFFFF#16 = m) : m = w :=
  h.symm.trans BitVec.and_allOnes

/-- The op codes of R74 select no row. -/
theorem decode_eq_reservedOp_iff (w : OpWord) :
    decode w = .error .reservedOp ↔ (fieldOp w).toNat = 0 ∨ 0xB ≤ (fieldOp w).toNat := by
  unfold decode
  split
  -- The last case is the default arm; each row before it refuses with the other reason only.
  case h_11 =>
    refine iff_of_true rfl ?_
    simp only [imp_false] at *
    omega
  all_goals simp [selectRow_error_iff, *]

/-- A word that decodes selected the row of what it decodes to, which fixes the bits outside the row's fields. -/
theorem encode_of_decode {w : OpWord} {i : Instr} (h : decode w = .ok i) : encode i = w := by
  unfold decode at h
  split at h
  case h_11 => cases h
  all_goals
    obtain ⟨hmask, rfl⟩ := selectRow_ok_iff.mp h
  case h_1 | h_2 | h_3 | h_4 => exact encodeByte_fieldD_of_masked hmask
  case h_5 | h_6 | h_7 => exact eq_of_masked hmask
  case h_8 | h_9 | h_10 => exact encodeBool_fieldB_of_masked hmask

/-- Settles O3: the row that a word selects fixes every bit outside the operand fields. -/
theorem decodedWordIsTheEncoding : Obligations.DecodedWordIsTheEncoding := fun _ _ => encode_of_decode

/-- The row of every operation stands in the table of R72. -/
theorem row_mem_tableRows (i : Instr) : (rowMask i, rowMatch i) ∈ tableRows := by
  cases i <;> simp [tableRows, rowMask, rowMatch]

/-- Every row of the table is some operation's: the words it matches are that operation's words. -/
theorem exists_encode_of_row_matches {w : OpWord} {r : OpWord × OpWord} (hr : r ∈ tableRows) (h : w &&& r.1 = r.2) :
    ∃ i, encode i = w := by
  simp only [tableRows, List.mem_cons, List.not_mem_nil, or_false] at hr
  obtain rfl | rfl | rfl | rfl | rfl | rfl | rfl | rfl | rfl | rfl := hr
  · exact ⟨.wra (fieldD w), encodeByte_fieldD_of_masked h⟩
  · exact ⟨.rsa (fieldD w), encodeByte_fieldD_of_masked h⟩
  · exact ⟨.wrb (fieldD w), encodeByte_fieldD_of_masked h⟩
  · exact ⟨.rsb (fieldD w), encodeByte_fieldD_of_masked h⟩
  · exact ⟨.rda, eq_of_masked h⟩
  · exact ⟨.rdb, eq_of_masked h⟩
  · exact ⟨.rst, eq_of_masked h⟩
  · exact ⟨.atn (fieldB w), encodeBool_fieldB_of_masked h⟩
  · exact ⟨.irq (fieldB w), encodeBool_fieldB_of_masked h⟩
  · exact ⟨.irr (fieldB w), encodeBool_fieldB_of_masked h⟩

theorem decodes_iff_row_matches (w : OpWord) : (∃ i, decode w = .ok i) ↔ ∃ r ∈ tableRows, w &&& r.1 = r.2 := by
  constructor
  · rintro ⟨i, h⟩
    obtain rfl := encode_of_decode h
    exact ⟨_, row_mem_tableRows i, encode_masked i⟩
  · rintro ⟨r, hr, h⟩
    obtain ⟨i, rfl⟩ := exists_encode_of_row_matches hr h
    exact ⟨i, decode_encode i⟩

/-- A word is refused for a nonzero field iff it neither decodes nor has a reserved op code. -/
theorem decode_eq_nonzeroReservedField_iff (w : OpWord) :
    decode w = .error .nonzeroReservedField ↔ (¬ ∃ i, decode w = .ok i) ∧ decode w ≠ .error .reservedOp := by
  match decode w with
  | .ok i => simp
  | .error .reservedOp => simp
  | .error .nonzeroReservedField => simp

/-- The field `op` is the word shifted down to bit 12 (R71). -/
theorem fieldOp_toNat (w : OpWord) : (fieldOp w).toNat = (w >>> 12).toNat := by
  simp [fieldOp, BitVec.extractLsb'_toNat]
  omega

/-- The op codes of R74, in the spelling of the spec. -/
theorem decode_eq_reservedOp_iff_shifted (w : OpWord) :
    decode w = .error .reservedOp ↔ (w >>> 12 = 0 ∨ 0xB ≤ w >>> 12) := by
  rw [decode_eq_reservedOp_iff, fieldOp_toNat, BitVec.natCast_eq_ofNat]
  bv_omega

/-- The op codes of the ten rows are those that R74 does not reserve. -/
theorem defined_iff_not_reserved (w : OpWord) :
    (0x1 ≤ w >>> 12 ∧ w >>> 12 ≤ 0xA) ↔ ¬ (w >>> 12 = 0 ∨ 0xB ≤ w >>> 12) := by
  simp only [BitVec.natCast_eq_ofNat]
  bv_omega

/-- Settles O4: the three answers of `decode` exclude each other; the first is `decodes_iff_row_matches`, the second
`decode_eq_reservedOp_iff`, the third what is left. -/
theorem wordsOutsideTheTableAreRefused : Obligations.WordsOutsideTheTableAreRefused := by
  intro w
  refine ⟨decodes_iff_row_matches w, decode_eq_reservedOp_iff_shifted w, ?_⟩
  rw [decode_eq_nonzeroReservedField_iff, decodes_iff_row_matches, ne_eq, decode_eq_reservedOp_iff_shifted,
    ← defined_iff_not_reserved, not_exists, and_comm, and_assoc]
  simp only [not_and]

/-- Settles O1: each word of V9 is evaluated. -/
theorem specWordsDecodeAsWritten : Obligations.SpecWordsDecodeAsWritten :=
  ⟨rfl, rfl, rfl, rfl, rfl, rfl, rfl, rfl, rfl, rfl, rfl, rfl, rfl, rfl, rfl, rfl, rfl, rfl, rfl, rfl, rfl, rfl⟩

end Sys2Proof

/-! PROOFS. What the operations leave alone: a lemma per field and shared operation, what every operation keeps, and the frames of
the operations (10_state.md R40). -/

namespace Sys2Proof.Machine

@[simp] theorem State.portAWrite_cfg (d : Byte) (s : State) : (s.portAWrite d).cfg = s.cfg := by
  rw [State.portAWrite_eq]

@[simp] theorem State.portAWrite_others (d : Byte) (s : State) : (s.portAWrite d).others = s.others := by
  rw [State.portAWrite_eq]

@[simp] theorem State.portAWrite_regs (d : Byte) (s : State) : (s.portAWrite d).regs = s.regs := by
  rw [State.portAWrite_eq]

@[simp] theorem State.portAWrite_ic (d : Byte) (s : State) : (s.portAWrite d).ic = s.ic := by
  rw [State.portAWrite_eq]

@[simp] theorem State.portAWrite_clk (d : Byte) (s : State) : (s.portAWrite d).clk = s.clk := by
  rw [State.portAWrite_eq]

@[simp] theorem State.portAWrite_inputs (d : Byte) (s : State) : (s.portAWrite d).inputs = s.inputs := by
  rw [State.portAWrite_eq]

@[simp] theorem State.portAWrite_returned (d : Byte) (s : State) : (s.portAWrite d).returned = s.returned := by
  rw [State.portAWrite_eq]

@[simp] theorem State.portBWrite_cfg (d : Byte) (s : State) : (s.portBWrite d).cfg = s.cfg := by
  obtain ⟨st, ev, h⟩ := s.portBWrite_fields d
  rw [h]

@[simp] theorem State.portBWrite_outs (d : Byte) (s : State) : (s.portBWrite d).outs = s.outs := by
  obtain ⟨st, ev, h⟩ := s.portBWrite_fields d
  rw [h]

@[simp] theorem State.portBWrite_lines (d : Byte) (s : State) : (s.portBWrite d).lines = s.lines := by
  obtain ⟨st, ev, h⟩ := s.portBWrite_fields d
  rw [h]

@[simp] theorem State.portBWrite_others (d : Byte) (s : State) : (s.portBWrite d).others = s.others := by
  obtain ⟨st, ev, h⟩ := s.portBWrite_fields d
  rw [h]

@[simp] theorem State.portBWrite_regs (d : Byte) (s : State) : (s.portBWrite d).regs = s.regs := by
  obtain ⟨st, ev, h⟩ := s.portBWrite_fields d
  rw [h]

@[simp] theorem State.portBWrite_ic (d : Byte) (s : State) : (s.portBWrite d).ic = s.ic := by
  obtain ⟨st, ev, h⟩ := s.portBWrite_fields d
  rw [h]

@[simp] theorem State.portBWrite_clk (d : Byte) (s : State) : (s.portBWrite d).clk = s.clk := by
  obtain ⟨st, ev, h⟩ := s.portBWrite_fields d
  rw [h]

@[simp] theorem State.portBWrite_inputs (d : Byte) (s : State) : (s.portBWrite d).inputs = s.inputs := by
  obtain ⟨st, ev, h⟩ := s.portBWrite_fields d
  rw [h]

@[simp] theorem State.portBWrite_returned (d : Byte) (s : State) : (s.portBWrite d).returned = s.returned := by
  obtain ⟨st, ev, h⟩ := s.portBWrite_fields d
  rw [h]

@[simp] theorem State.atnTransition_others (b : Bool) (s : State) : (s.atnTransition b).others = s.others := by
  rw [State.atnTransition_eq]

@[simp] theorem State.atnTransition_regs (b : Bool) (s : State) : (s.atnTransition b).regs = s.regs := by
  rw [State.atnTransition_eq]

@[simp] theorem State.atnTransition_ic (b : Bool) (s : State) : (s.atnTransition b).ic = s.ic := by
  rw [State.atnTransition_eq]

@[simp] theorem State.atnTransition_clk (b : Bool) (s : State) : (s.atnTransition b).clk = s.clk := by
  rw [State.atnTransition_eq]

@[simp] theorem State.atnTransition_inputs (b : Bool) (s : State) : (s.atnTransition b).inputs = s.inputs := by
  rw [State.atnTransition_eq]

@[simp] theorem State.atnTransition_returned (b : Bool) (s : State) : (s.atnTransition b).returned = s.returned := by
  rw [State.atnTransition_eq]

@[simp] theorem State.adapterReset_cfg (s : State) : s.adapterReset.cfg = s.cfg := by
  rw [State.adapterReset_eq]

@[simp] theorem State.adapterReset_others (s : State) : s.adapterReset.others = s.others := by
  rw [State.adapterReset_eq]

@[simp] theorem State.adapterReset_regs (s : State) : s.adapterReset.regs = s.regs := by
  rw [State.adapterReset_eq]

@[simp] theorem State.adapterReset_ic (s : State) : s.adapterReset.ic = s.ic := by
  rw [State.adapterReset_eq]

@[simp] theorem State.adapterReset_clk (s : State) : s.adapterReset.clk = s.clk := by
  rw [State.adapterReset_eq]

@[simp] theorem State.adapterReset_inputs (s : State) : s.adapterReset.inputs = s.inputs := by
  rw [State.adapterReset_eq]

@[simp] theorem State.adapterReset_returned (s : State) : s.adapterReset.returned = s.returned := by
  rw [State.adapterReset_eq]

theorem State.portAWrite_lines (d : Byte) (s : State) :
    (s.portAWrite d).lines =
      { atn := s.lines.atn
        dav := s.busValue .dav (davOf d)
        eoi := s.busValue .eoi (eoiOf d)
        nrfd := s.busValue .nrfd (nrfdOf s.atnActive d)
        ndac := s.busValue .ndac (ndacOf s.atnActive d) } := by
  rw [State.portAWrite_eq]

theorem State.atnTransition_outs (b : Bool) (s : State) :
    (s.atnTransition b).outs = { s.outs with nrfd := nrfdOf b s.regs.ORA, ndac := ndacOf b s.regs.ORA } := by
  rw [State.atnTransition_eq]

theorem State.atnTransition_lines (b : Bool) (s : State) :
    (s.atnTransition b).lines =
      { s.lines with
        nrfd := s.busValue .nrfd (nrfdOf b s.regs.ORA)
        ndac := s.busValue .ndac (ndacOf b s.regs.ORA) } := by
  rw [State.atnTransition_eq]

theorem State.adapterReset_outs (s : State) :
    s.adapterReset.outs =
      { nrfd := nrfdOf false s.regs.ORA, ndac := ndacOf false s.regs.ORA, eoi := false, dav := false } := by
  rw [State.adapterReset_eq]

theorem State.adapterReset_lines (s : State) :
    s.adapterReset.lines =
      { atn := s.lines.atn
        dav := s.busValue .dav false
        eoi := s.busValue .eoi false
        nrfd := s.busValue .nrfd (nrfdOf false s.regs.ORA)
        ndac := s.busValue .ndac (ndacOf false s.regs.ORA) } := by
  rw [State.adapterReset_eq]

/-- Every operation completes (60_exceptions.md R150). -/
theorem exec_completes (i : Instr) (s : State) : ∃ t, exec i s = .next t := by
  cases i <;> exact ⟨_, rfl⟩

/-- Settles O46: no operation's meaning ends in a fault or a refusal. -/
theorem everyOperationCompletes : Obligations.EveryOperationCompletes := exec_completes

/-- What no operation writes: the configuration, the ATN line, what others contribute, the inputs and the side input. -/
theorem exec_keeps {i : Instr} {s t : State} (h : exec i s = .next t) :
    t.cfg = s.cfg ∧ t.lines.atn = s.lines.atn ∧ t.others = s.others ∧ t.inputs = s.inputs ∧ t.clk = s.clk := by
  obtain ⟨d, -, rfl⟩ | ⟨d, -, rfl⟩ | ⟨-, rfl⟩ | ⟨-, rfl⟩ | ⟨-, rfl⟩ | ⟨b, -, -, rfl⟩ | ⟨b, -, -, rfl⟩ |
    ⟨-, rfl⟩ | ⟨-, rfl⟩ | ⟨b, -, rfl⟩ := exec_cases h
  -- The three operations that form lines anew keep the ATN line by their line equations.
  case inl => simp [State.portAWrite_lines]
  case inr.inr.inr.inr.inl => simp [State.adapterReset_lines]
  case inr.inr.inr.inr.inr.inl => simp [State.atnTransition_lines]
  all_goals simp

/-- Settles O21, from the field lemmas of the port-A write. -/
theorem portAWriteFrame : Obligations.PortAWriteFrame := by
  intro d s t i hi h
  obtain rfl := Host.Outcome.next.inj ((exec_portAWrite hi s).symm.trans h)
  simp [State.portAWrite_lines]

/-- Settles O22, from the field lemmas of the port-B write. -/
theorem portBWriteFrame : Obligations.PortBWriteFrame := by
  intro d s t i hi h
  obtain rfl := Host.Outcome.next.inj ((exec_portBWrite hi s).symm.trans h)
  simp

/-- Settles O29, from the field lemmas of the reset, which writes the status field of the adapter's own slot alone. -/
theorem resetFrame : Obligations.ResetFrame := by
  intro s t h
  obtain rfl := Host.Outcome.next.inj ((exec_rst s).symm.trans h)
  obtain ⟨hcfg, hatn, hothers, hinputs, hclk⟩ := exec_keeps h
  refine ⟨hcfg, hatn, hothers, by simp, hclk, hinputs, by simp, fun hu => ?_, fun hu => ?_⟩
  · simp [hu]
  · simp [hu]

/-- Settles O39: on a legacy adapter the field lemmas of the transition, on another one the state is the same. -/
theorem atnFrame : Obligations.AtnFrame := by
  intro b s t h
  cases hl : s.cfg.legacy with
  | true =>
    obtain rfl := Host.Outcome.next.inj ((exec_atn_of_legacy hl b).symm.trans h)
    simp [State.atnTransition_outs, State.atnTransition_lines]
  | false =>
    obtain rfl := Host.Outcome.next.inj ((exec_atn_of_nonLegacy hl b).symm.trans h)
    simp

/-- An operation that writes contributions is a port-A write or restore, RST, or a legacy ATN, which writes NRFD and NDAC. -/
theorem exec_outs_cases {i : Instr} {s t : State} (h : exec i s = .next t) :
    (i = .rst ∨ ∃ d, i = .wra d ∨ i = .rsa d) ∨
    (s.cfg.legacy = true ∧ (∃ b, i = .atn b) ∧ t.outs.eoi = s.outs.eoi ∧ t.outs.dav = s.outs.dav) ∨
    t.outs = s.outs := by
  obtain ⟨d, hi, -⟩ | ⟨d, -, rfl⟩ | ⟨-, rfl⟩ | ⟨-, rfl⟩ | ⟨hi, -⟩ | ⟨b, hi, hl, rfl⟩ | ⟨b, -, -, rfl⟩ |
    ⟨-, rfl⟩ | ⟨-, rfl⟩ | ⟨b, -, rfl⟩ := exec_cases h
  case inl => exact .inl (.inr ⟨d, hi⟩)
  case inr.inr.inr.inr.inl => exact .inl (.inl hi)
  case inr.inr.inr.inr.inr.inl => exact .inr (.inl ⟨hl, ⟨b, hi⟩, by simp [State.atnTransition_outs]⟩)
  all_goals exact .inr (.inr (by simp))

/-- Settles O49, from `exec_outs_cases`. -/
theorem outputLinesHaveTheseWritersOnly : Obligations.OutputLinesHaveTheseWritersOnly := by
  intro i s t h
  obtain hi | ⟨hl, hb, heoi, hdav⟩ | hkeep := exec_outs_cases h
  · exact ⟨fun _ => hi.imp id .inl, fun _ => hi⟩
  · exact ⟨fun _ => .inr (.inr ⟨hl, hb⟩), fun hne => by simp [heoi, hdav] at hne⟩
  · exact ⟨fun hne => by simp [hkeep] at hne, fun hne => by simp [hkeep] at hne⟩

end Sys2Proof.Machine

/-! PROOFS. What one step does with each kind of input, and that a machine fed with encoded operations and collaborator steps
never stops (20_memory.md R56, R59; 30_encoding.md R72 to R76; 60_exceptions.md R150). -/

namespace Sys2Proof.Machine

theorem step_of_nil {s : State} (h : s.inputs = []) : step s = .next s := by
  rw [step, runNext, h]

theorem step_of_op {s : State} {w : OpWord} {clk : Nat} {rest : List Input} (h : s.inputs = .op w clk :: rest) :
    step s = runWord w (s.deliver rest clk) := by
  rw [step, runNext, h]

theorem step_of_env {s : State} {e : EnvStep} {rest : List Input} (h : s.inputs = .env e :: rest) :
    step s = .next (applyEnv e (s.await rest)) := by
  rw [step, runNext, h]

theorem runWord_of_ok {w : OpWord} {i : Instr} (h : decode w = .ok i) (s : State) : runWord w s = exec i s := by
  rw [runWord, h]

theorem runWord_of_error {w : OpWord} {e : DecodeError} (h : decode w = .error e) (s : State) :
    runWord w s = .refused (refusalOf e) := by
  rw [runWord, h]

/-- Settles O5, from the two halves of a step on a word. -/
theorem stepRunsTheDecodedOperation : Obligations.StepRunsTheDecodedOperation :=
  fun s _ clk rest _ hin hd => (step_of_op hin).trans (runWord_of_ok hd (s.deliver rest clk))

/-- Settles O6, from the two halves of a step on a word. -/
theorem stepRefusesUndecodableWords : Obligations.StepRefusesUndecodableWords :=
  fun s _ clk rest hin =>
    ⟨fun hd => (step_of_op hin).trans (runWord_of_error hd (s.deliver rest clk)),
      fun hd => (step_of_op hin).trans (runWord_of_error hd (s.deliver rest clk))⟩

/-- A collaborator step at the head of the inputs is taken, the rest waiting. -/
theorem step_env_cons (s : State) (e : EnvStep) (rest : List Input) :
    step { s with inputs := .env e :: rest } = .next (applyEnv e (s.await rest)) :=
  step_of_env rfl

/-- Settles O7: each of these steps is one update of the state, which `step_env_cons` names. -/
theorem collaboratorStepsChangeWhatTheyName : Obligations.CollaboratorStepsChangeWhatTheyName :=
  fun s rest b v c => ⟨step_of_nil rfl, step_env_cons s (.atnLine b) rest, step_env_cons s (.setDDR .a v) rest,
    step_env_cons s (.setDDR .b v) rest, step_env_cons s (.driveStatus .u0 c) rest,
    step_env_cons s (.driveStatus .u1 c) rest, step_env_cons s .teardown rest⟩

/-- Another agent's contribution is recorded, and its line formed anew from what is then recorded (10_state.md R28). -/
theorem State.contribute_of_ne {agent : BusAgent} {s : State} (h : agent ≠ s.cfg.self) (line : BusLine) (v : Bool) :
    s.contribute agent line v =
      ({ s with others := recordContribution agent line v s.others } : State).setLine line
        (({ s with others := recordContribution agent line v s.others } : State).formedValue line) :=
  if_neg h

/-- A contribution under the adapter's own identity has no effect (log 5). -/
theorem State.contribute_of_self {agent : BusAgent} {s : State} (h : agent = s.cfg.self) (line : BusLine) (v : Bool) :
    s.contribute agent line v = s :=
  if_pos h

/-- On a shared bus, and for ATN in SOLO too, a line is set directly (30_encoding.md R76). -/
theorem State.forceLine_of_set {line : BusLine} {s : State} (h : s.cfg.combine = .shared ∨ line = .atn) (v : Bool) :
    s.forceLine line v = s.setLine line v := by
  obtain ⟨hsolo, hline, -⟩ | ⟨-, hset⟩ := s.forceLine_cases line v
  · simp [hsolo, hline] at h
  · exact hset

/-- In SOLO the four lines cannot be set directly (log 6). -/
theorem State.forceLine_of_solo {line : BusLine} {s : State} (hsolo : s.cfg.combine = .solo) (hline : line ≠ .atn)
    (v : Bool) : s.forceLine line v = s := by
  obtain ⟨-, -, hkeep⟩ | ⟨hset, -⟩ := s.forceLine_cases line v
  · exact hkeep
  · simp [hsolo, hline] at hset

/-- Settles O8: the two cases of a contribution and of a directly set line. Line by line, the value formed is the one that the
statement writes out. -/
theorem linesFollowAllContributions : Obligations.LinesFollowAllContributions := by
  intro s rest agent line b
  have hcontribute := step_env_cons s (.contribute agent line b) rest
  have hforce := step_env_cons s (.forceLine line b) rest
  refine ⟨fun hne => ⟨recordContribution_mem agent line b s.others, hcontribute.trans ?_⟩,
    fun hself => hcontribute.trans (congrArg _ (State.contribute_of_self (s := s.await rest) hself line b)),
    fun hset => hforce.trans (congrArg _ (State.forceLine_of_set (s := s.await rest) hset b)),
    fun hsolo hline => hforce.trans (congrArg _ (State.forceLine_of_solo (s := s.await rest) hsolo hline b))⟩
  refine congrArg _ ((State.contribute_of_ne (s := s.await rest) hne line b).trans ?_)
  cases line <;> rfl

/-- Settles O10: no input, a collaborator's step and a word that decodes are all answered by a next state; what is left is a
word that does not decode, refused by `refusalOf`. -/
theorem stepRefusesOnlyForTheseReasons : Obligations.StepRefusesOnlyForTheseReasons := by
  intro s r h
  match hin : s.inputs with
  | [] =>
    rw [step_of_nil hin] at h
    cases h
  | .env e :: rest =>
    rw [step_of_env hin] at h
    cases h
  | .op w clk :: rest =>
    refine ⟨w, clk, rest, rfl, ?_⟩
    rw [step_of_op hin] at h
    match hd : decode w with
    | .ok i =>
      obtain ⟨t, ht⟩ := exec_completes i (s.deliver rest clk)
      rw [runWord_of_ok hd, ht] at h
      cases h
    | .error .reservedOp =>
      rw [runWord_of_error hd] at h
      exact .inl ⟨(Host.Outcome.refused.inj h).symm, rfl⟩
    | .error .nonzeroReservedField =>
      rw [runWord_of_error hd] at h
      exact .inr ⟨(Host.Outcome.refused.inj h).symm, rfl⟩

/-- A step on an encoded operation runs it, and on a collaborator's step takes it; either leaves only inputs that waited. -/
theorem step_completes_of_encoded {s : State} (h : ∀ x ∈ s.inputs, (∃ e, x = .env e) ∨ ∃ i clk, x = inputOf i clk) :
    ∃ t, step s = .next t ∧ ∀ x ∈ t.inputs, x ∈ s.inputs := by
  match hin : s.inputs with
  | [] => exact ⟨s, step_of_nil hin, by simp [hin]⟩
  | .env e :: rest =>
    refine ⟨_, step_of_env hin, fun x hx => List.mem_cons_of_mem _ ?_⟩
    obtain hkeep | hdrop := applyEnv_inputs e (s.await rest)
    · simpa [hkeep] using hx
    · simp [hdrop] at hx
  | .op w clk :: rest =>
    obtain ⟨e, he⟩ | ⟨i, k, hi⟩ := h (.op w clk) (by simp [hin])
    · cases he
    · cases hi
      obtain ⟨t, ht⟩ := exec_completes i (s.deliver rest clk)
      obtain ⟨-, -, -, hinputs, -⟩ := exec_keeps ht
      refine ⟨t, ?_, fun x hx => List.mem_cons_of_mem _ (by simpa [hinputs] using hx)⟩
      rw [step_of_op hin, runWord_of_ok (decode_encode i), ht]

/-- Settles O47, by induction on the number of steps: the inputs that wait after a step waited before it. -/
theorem encodedOperationsRunWithoutStop : Obligations.EncodedOperationsRunWithoutStop := by
  intro s h k
  induction k generalizing s with
  | zero => trivial
  | succ k ih =>
    obtain ⟨t, hstep, hsub⟩ := step_completes_of_encoded h
    exact ⟨t, hstep, ih t fun x hx => h x (hsub x hx)⟩

/-- No step writes the configuration (00_scope.md R8). -/
theorem step_cfg {s t : State} (h : step s = .next t) : t.cfg = s.cfg := by
  obtain ⟨-, rfl⟩ | ⟨w, clk, rest, i, -, -, hx⟩ | ⟨e, rest, -, rfl⟩ := step_cases h
  · rfl
  · exact (exec_keeps hx).1
  · simp

/-- Settles O50, from what `exec_keeps` says of operations and `step_cfg` of steps. -/
theorem configurationAndAtnLineAreNotWritten : Obligations.ConfigurationAndAtnLineAreNotWritten := by
  refine ⟨fun i s t h => ?_, fun s t => step_cfg⟩
  obtain ⟨-, hkeep⟩ := exec_keeps h
  exact hkeep

end Sys2Proof.Machine

/-! PROOFS. The invariant: every step but a direct setting of a line keeps the four lines formed, which in SOLO says that they are
the contributions, and every step keeps the rest of `State.Inv` (10_state.md R25, R28, R34; 40_handshake.md R90, R91). -/

namespace Sys2Proof.Machine

/-- Where configuration and other contributions are those of `s`, the lines are formed iff they are what `s` forms. -/
theorem State.linesFormed_iff_of_bus_eq {s t : State} (hcfg : t.cfg = s.cfg) (hothers : t.others = s.others) :
    t.linesFormed ↔
      t.lines.dav = s.busValue .dav t.outs.dav ∧ t.lines.eoi = s.busValue .eoi t.outs.eoi ∧
      t.lines.nrfd = s.busValue .nrfd t.outs.nrfd ∧ t.lines.ndac = s.busValue .ndac t.outs.ndac := by
  simp only [State.linesFormed, State.busValue_congr hcfg hothers]

/-- Every operation forms the lines of the contributions that it writes, and leaves the others. -/
theorem exec_linesFormed {i : Instr} {s t : State} (hs : s.linesFormed) (h : exec i s = .next t) : t.linesFormed := by
  obtain ⟨hcfg, -, hothers, -, -⟩ := exec_keeps h
  rw [State.linesFormed_iff_of_bus_eq hcfg hothers]
  obtain ⟨hdav, heoi, hnrfd, hndac⟩ := hs
  obtain ⟨d, -, rfl⟩ | ⟨d, -, rfl⟩ | ⟨-, rfl⟩ | ⟨-, rfl⟩ | ⟨-, rfl⟩ | ⟨b, -, -, rfl⟩ | ⟨b, -, -, rfl⟩ |
    ⟨-, rfl⟩ | ⟨-, rfl⟩ | ⟨b, -, rfl⟩ := exec_cases h
  case inl => rw [State.portAWrite_outs, State.portAWrite_lines]; exact ⟨rfl, rfl, rfl, rfl⟩
  case inr.inr.inr.inr.inl => rw [State.adapterReset_outs, State.adapterReset_lines]; exact ⟨rfl, rfl, rfl, rfl⟩
  case inr.inr.inr.inr.inr.inl =>
    rw [State.atnTransition_outs, State.atnTransition_lines]
    exact ⟨hdav, heoi, rfl, rfl⟩
  case inr.inl => simpa using ⟨hdav, heoi, hnrfd, hndac⟩
  all_goals exact ⟨hdav, heoi, hnrfd, hndac⟩

/-- What is recorded for one line does not enter the value of another. -/
theorem State.busValue_recordContribution_of_ne {l m : BusLine} (h : l ≠ m) (s : State) (a : BusAgent) (v own : Bool) :
    ({ s with others := recordContribution a l v s.others } : State).busValue m own = s.busValue m own := by
  cases hmode : s.cfg.combine <;>
    simp [State.busValue, lineValue, hmode, allContributions_recordContribution_of_ne h]

@[simp] theorem State.setLine_busValue (l m : BusLine) (v own : Bool) (s : State) :
    (s.setLine l v).busValue m own = s.busValue m own := rfl

/-- Another agent's contribution forms its line anew and leaves the others formed. -/
theorem State.contribute_linesFormed {s : State} (hs : s.linesFormed) (a : BusAgent) (l : BusLine) (v : Bool) :
    (s.contribute a l v).linesFormed := by
  by_cases ha : a = s.cfg.self
  · rwa [State.contribute_of_self ha]
  · rw [State.contribute_of_ne ha]
    have hother := fun m (h : l ≠ m) => s.busValue_recordContribution_of_ne h a v
    obtain ⟨hdav, heoi, hnrfd, hndac⟩ := hs
    -- The line of the contribution is formed by `formedValue`; the others are as in `s` by `hother`.
    cases l <;> simp [State.linesFormed, State.formedValue, outputTo, hother, hdav, heoi, hnrfd, hndac]

/-- Every collaborator step but a direct setting of a line keeps the lines formed. -/
theorem applyEnv_linesFormed {e : EnvStep} {s : State} (hs : s.linesFormed) (he : ∀ l b, e ≠ .forceLine l b) :
    (applyEnv e s).linesFormed := by
  cases e with
  | forceLine l b => exact absurd rfl (he l b)
  | contribute a l b => exact State.contribute_linesFormed hs a l b
  | setDDR port v => cases port <;> exact hs
  | atnLine b => exact hs
  | driveStatus slot v => exact hs
  | teardown => exact hs

/-- Every step but a `!BUS` step keeps the lines formed (10_state.md R28). -/
theorem step_linesFormed {s t : State} (hs : s.linesFormed) (hforce : ∀ l b rest, s.inputs ≠ .env (.forceLine l b) :: rest)
    (h : step s = .next t) : t.linesFormed := by
  obtain ⟨-, rfl⟩ | ⟨w, clk, rest, i, -, -, hx⟩ | ⟨e, rest, hin, rfl⟩ := step_cases h
  · exact hs
  · exact exec_linesFormed (s := s.deliver rest clk) hs hx
  · exact applyEnv_linesFormed (s := s.await rest) hs fun l b he => hforce l b rest (he ▸ hin)

/-- In SOLO the lines are the contributions exactly where they are formed (92 D4). -/
theorem State.soloLinesAgree_iff (s : State) : s.soloLinesAgree ↔ (s.cfg.combine = .solo → s.linesFormed) := by
  refine forall_congr' fun hsolo => ?_
  simp only [State.linesFormed, State.busValue_solo hsolo]

/-- In SOLO no line that the adapter contributes to can be set directly (log 6). -/
theorem State.forceLine_linesFormed_of_solo {s : State} (hs : s.linesFormed) (hsolo : s.cfg.combine = .solo) (l : BusLine)
    (b : Bool) : (s.forceLine l b).linesFormed := by
  obtain ⟨-, -, hkeep⟩ | ⟨hset, hset'⟩ := s.forceLine_cases l b
  · rwa [hkeep]
  · obtain rfl : l = .atn := hset.resolve_left (by simp [hsolo])
    rw [hset']
    exact hs

theorem applyEnv_soloLinesAgree {e : EnvStep} {s : State} (hs : s.soloLinesAgree) : (applyEnv e s).soloLinesAgree := by
  rw [State.soloLinesAgree_iff] at hs ⊢
  intro hsolo
  rw [applyEnv_cfg] at hsolo
  by_cases hforce : ∃ l b, e = .forceLine l b
  · obtain ⟨l, b, rfl⟩ := hforce
    exact State.forceLine_linesFormed_of_solo (hs hsolo) hsolo l b
  · exact applyEnv_linesFormed (hs hsolo) fun l b he => hforce ⟨l, b, he⟩

theorem exec_soloLinesAgree {i : Instr} {s t : State} (hs : s.soloLinesAgree) (h : exec i s = .next t) :
    t.soloLinesAgree := by
  rw [State.soloLinesAgree_iff] at hs ⊢
  rw [(exec_keeps h).1]
  exact fun hsolo => exec_linesFormed (hs hsolo) h

/-- No operation makes or removes `status[1]` (10_state.md R34). -/
theorem exec_slot1_isSome {i : Instr} {s t : State} (h : exec i s = .next t) :
    t.status.slot1.isSome = s.status.slot1.isSome := by
  obtain ⟨d, -, rfl⟩ | ⟨d, -, rfl⟩ | ⟨-, rfl⟩ | ⟨-, rfl⟩ | ⟨-, rfl⟩ | ⟨b, -, -, rfl⟩ | ⟨b, -, -, rfl⟩ |
    ⟨-, rfl⟩ | ⟨-, rfl⟩ | ⟨b, -, rfl⟩ := exec_cases h
  case inr.inl =>
    cases htwo : servesTwo (s.coreStoreB d).cfg
    · simp [State.portBWrite_one d _ htwo]
    · simp [State.portBWrite_two d _ htwo]
  all_goals simp

/-- The latch of a non-legacy adapter is written by RST alone, which clears it (10_state.md R25). -/
theorem exec_latchInert {i : Instr} {s t : State} (hs : s.latchInert) (h : exec i s = .next t) : t.latchInert := by
  unfold State.latchInert at hs ⊢
  rw [(exec_keeps h).1]
  intro hlegacy
  obtain ⟨-, hclear⟩ | ⟨hl, -⟩ | hkeep := exec_latch_cases h
  · exact hclear
  · simp [hl] at hlegacy
  · exact hkeep.trans (hs hlegacy)

/-- The operations that write ORA or the latch derive NRFD and NDAC from the new values; the others leave all four
(40_handshake.md R91). -/
theorem exec_handshakeDerived {i : Instr} {s t : State} (hs : s.handshakeDerived) (h : exec i s = .next t) :
    t.handshakeDerived := by
  unfold State.handshakeDerived at hs ⊢
  obtain ⟨d, -, rfl⟩ | ⟨d, -, rfl⟩ | ⟨-, rfl⟩ | ⟨-, rfl⟩ | ⟨-, rfl⟩ | ⟨b, -, -, rfl⟩ | ⟨b, -, -, rfl⟩ |
    ⟨-, rfl⟩ | ⟨-, rfl⟩ | ⟨b, -, rfl⟩ := exec_cases h
  case inl => simp [State.portAWrite_outs]
  case inr.inr.inr.inr.inl => simp [State.adapterReset_outs]
  case inr.inr.inr.inr.inr.inl => simp [State.atnTransition_outs]
  all_goals simpa using hs

theorem applyEnv_handshakeDerived {e : EnvStep} {s : State} (hs : s.handshakeDerived) :
    (applyEnv e s).handshakeDerived := by
  have hORA : (applyEnv e s).regs.ORA = s.regs.ORA := by
    cases e with
    | setDDR port v => cases port <;> rfl
    | _ => simp [applyEnv]
  simpa [State.handshakeDerived, hORA] using hs

theorem applyEnv_slot1_isSome (e : EnvStep) (s : State) :
    (applyEnv e s).status.slot1.isSome = s.status.slot1.isSome := by
  cases e <;> simp [applyEnv]

/-- A collaborator step leaves what others contribute, or records another agent's contribution. -/
theorem applyEnv_others_cases (e : EnvStep) (s : State) :
    (applyEnv e s).others = s.others ∨
    ∃ a l b, a ≠ s.cfg.self ∧ (applyEnv e s).others = recordContribution a l b s.others := by
  cases e with
  | contribute a l b =>
    by_cases ha : a = s.cfg.self
    · exact .inl (by simp [applyEnv, ha])
    · exact .inr ⟨a, l, b, ha, by simp [applyEnv, ha]⟩
  | _ => exact .inl (by simp [applyEnv])

/-- Every operation keeps the invariant. -/
theorem exec_inv {i : Instr} {s t : State} (hs : s.Inv) (h : exec i s = .next t) : t.Inv := by
  obtain ⟨hcfg, -, hothers, -, -⟩ := exec_keeps h
  exact
    { config := hcfg ▸ hs.config
      latch := exec_latchInert hs.latch h
      handshake := exec_handshakeDerived hs.handshake h
      solo := exec_soloLinesAgree hs.solo h
      ordered := hothers ▸ hs.ordered
      foreign := by rw [hcfg, hothers]; exact hs.foreign
      slot := by rw [exec_slot1_isSome h, hcfg]; exact hs.slot }

/-- Every collaborator step keeps the invariant: what it may record is another agent's contribution. -/
theorem applyEnv_inv {e : EnvStep} {s : State} (hs : s.Inv) : (applyEnv e s).Inv where
  config := by rw [applyEnv_cfg]; exact hs.config
  latch := by rw [State.latchInert, applyEnv_cfg, applyEnv_atnActive]; exact hs.latch
  handshake := applyEnv_handshakeDerived hs.handshake
  solo := applyEnv_soloLinesAgree hs.solo
  ordered := by
    obtain hkeep | ⟨a, l, b, -, hrec⟩ := applyEnv_others_cases e s
    · rw [hkeep]; exact hs.ordered
    · rw [hrec]; exact recordContribution_ordered a l b _ hs.ordered
  foreign := by
    rw [applyEnv_cfg]
    obtain hkeep | ⟨a, l, b, ha, hrec⟩ := applyEnv_others_cases e s
    · rw [hkeep]; exact hs.foreign
    · rw [hrec]; exact recordContribution_foreign ha l b _ hs.foreign
  slot := by rw [applyEnv_slot1_isSome, applyEnv_cfg]; exact hs.slot

/-- Taking an input off the list touches nothing that the invariant speaks of. -/
theorem State.Inv.deliver {s : State} (hs : s.Inv) (rest : List Input) (clk : Nat) : (s.deliver rest clk).Inv :=
  { hs with }

theorem State.Inv.await {s : State} (hs : s.Inv) (rest : List Input) : (s.await rest).Inv :=
  { hs with }

/-- Settles O55: a step idles, runs an operation or takes a collaborator step, each of which keeps the invariant. -/
theorem stepKeepsTheInvariant : Obligations.StepKeepsTheInvariant := by
  intro s t hs h
  obtain ⟨-, rfl⟩ | ⟨w, clk, rest, i, -, -, hx⟩ | ⟨e, rest, -, rfl⟩ := step_cases h
  · exact hs
  · exact exec_inv (hs.deliver rest clk) hx
  · exact applyEnv_inv (hs.await rest)

end Sys2Proof.Machine

/-! PROOFS. The handshake derivation and the port writes: whole next states in the spec's own terms, what a repeated write and the
direction bytes change, and the latch that a restore needs (40_handshake.md R90; 42_port_write.md R110 to R114;
70_reset_and_hazards.md R175). -/

namespace Sys2Proof.Machine

/-- Settles O11: `nrfdOf` and `ndacOf` are the equations of R90. -/
theorem deriveFollowsTheEquations : Obligations.DeriveFollowsTheEquations :=
  fun p s => s.derive_eq p

/-- Settles O13: both operations are the port-A write of the stored byte. -/
theorem portAWriteAndRestorePublish : Obligations.PortAWriteAndRestorePublish := by
  intro d s
  have hwrite := (s.coreStoreA d).portAWrite_eq d
  exact ⟨(exec_portAWrite (.inl rfl) s).trans (congrArg _ hwrite), (exec_portAWrite (.inr rfl) s).trans (congrArg _ hwrite)⟩

/-- Settles O15: the equations of R90 at the byte 0x1D with either latch. -/
theorem restoreWithAnotherLatchDiffers : Obligations.RestoreWithAnotherLatchDiffers := by
  intro s u hs hu
  refine ⟨_, _, exec_portAWrite (.inl rfl) s, exec_portAWrite (.inr rfl) u, ?_⟩
  simp only [State.portAWrite_outs, State.coreStoreA_atnActive, hs, hu]
  decide

/-- What a port-A restore publishes depends on the byte and the latch alone (R111, R175). -/
theorem portAWrite_outs_eq_of_latch_eq (d : Byte) {s u : State} (h : u.atnActive = s.atnActive) :
    ((u.coreStoreA d).portAWrite d).outs = ((s.coreStoreA d).portAWrite d).outs := by
  simp only [State.portAWrite_outs, State.coreStoreA_atnActive, h]

/-- Settles O16: ATN loads the captured latch, RST the latch false; RSA then publishes what WRA did with the same latch. -/
theorem resetAndAtnBringBackTheCapturedLatch : Obligations.ResetAndAtnBringBackTheCapturedLatch := by
  intro d s u
  refine ⟨_, _, exec_portAWrite (.inl rfl) s, exec_rst u, fun hlegacy => ?_, fun hclear => ?_⟩
  · have hatn := exec_atn_of_legacy (s := u.coreReset.adapterReset) (by simpa using hlegacy) s.atnActive
    exact ⟨_, _, hatn, exec_portAWrite (.inr rfl) _, portAWrite_outs_eq_of_latch_eq d (by simp)⟩
  · exact ⟨_, exec_portAWrite (.inr rfl) _, portAWrite_outs_eq_of_latch_eq d (by simp [hclear])⟩

theorem primaryStatus_eq_extractLsb' (d : Byte) : primaryStatus d = d.extractLsb' 4 2 := by
  apply BitVec.eq_of_getLsbD_eq
  intro k hk
  interval_cases k
  · simpa using primaryStatus_getLsbD_zero d
  · simpa using primaryStatus_getLsbD_one d

theorem secondaryStatus_eq_append (d : Byte) :
    secondaryStatus d = BitVec.ofBool (d.getLsbD 5) ++ BitVec.ofBool (d.getLsbD 3) := by
  unfold secondaryStatus bit
  cases d.getLsbD 3 <;> cases d.getLsbD 5 <;> rfl

/-- Settles O17: a dual unit of unit 0 is `portBWrite_two`, every other adapter `portBWrite_one`. -/
theorem portBWriteAndRestoreSetStatus : Obligations.PortBWriteAndRestoreSetStatus := by
  intro d s i hi
  rw [exec_portBWrite hi, ← primaryStatus_eq_extractLsb', ← secondaryStatus_eq_append]
  refine ⟨fun hu hdual => ?_, fun hu hdual => ?_, fun hu => ?_⟩
  · rw [State.portBWrite_two d (s.coreStoreB d) ((servesTwo_iff s.cfg).mpr ⟨hu, hdual⟩)]
    rfl
  · rw [State.portBWrite_one d (s.coreStoreB d) (by simp [servesTwo, hdual])]
    simp [State.coreStoreB, hu]
  · rw [State.portBWrite_one d (s.coreStoreB d) (by simp [servesTwo, hu])]
    simp [State.coreStoreB, hu]

/-- Each of the four operations is a write or restore of one of the ports. -/
theorem portWrite_cases {i : Instr} {d : Byte} (h : i ∈ [.wra d, .rsa d, .wrb d, .rsb d]) :
    (i = .wra d ∨ i = .rsa d) ∨ i = .wrb d ∨ i = .rsb d := by
  simpa [or_assoc] using h

/-- A port-A write of the stored byte leaves the state, traces apart, as a second one does (20_memory.md R55). -/
theorem State.portAWrite_twice_arch (d : Byte) (s : State) :
    ((((s.coreStoreA d).portAWrite d).coreStoreA d).portAWrite d).arch = ((s.coreStoreA d).portAWrite d).arch := by
  simp [State.portAWrite_eq, State.coreStoreA, State.arch, State.busValue]

theorem State.portBWrite_twice_arch (d : Byte) (s : State) :
    ((((s.coreStoreB d).portBWrite d).coreStoreB d).portBWrite d).arch = ((s.coreStoreB d).portBWrite d).arch := by
  cases htwo : servesTwo s.cfg with
  | true => simp [State.portBWrite_two, State.coreStoreB, State.arch, htwo, Function.comp_def]
  | false => simp [State.portBWrite_one, State.coreStoreB, State.arch, htwo, setSlot_setSlot]

/-- Settles O19, port by port. -/
theorem portWritesAreIdempotent : Obligations.PortWritesAreIdempotent := by
  intro d s i hi
  obtain hA | hB := portWrite_cases hi
  · exact ⟨_, _, exec_portAWrite hA s, exec_portAWrite hA _, s.portAWrite_twice_arch d⟩
  · exact ⟨_, _, exec_portBWrite hB s, exec_portBWrite hB _, s.portBWrite_twice_arch d⟩

/-- Settles O20: neither port's write reads a direction byte. -/
theorem directionBytesDoNotEnterWrites : Obligations.DirectionBytesDoNotEnterWrites := by
  intro d x y s i hi
  obtain hA | hB := portWrite_cases hi
  · refine ⟨_, exec_portAWrite hA s, (exec_portAWrite hA _).trans ?_⟩
    simp [State.portAWrite_eq, State.coreStoreA, State.busValue]
  · refine ⟨_, exec_portBWrite hB s, (exec_portBWrite hB _).trans ?_⟩
    cases htwo : servesTwo s.cfg with
    | true => simp [State.portBWrite_two, State.coreStoreB, htwo]
    | false => simp [State.portBWrite_one, State.coreStoreB, htwo]

end Sys2Proof.Machine

/-! PROOFS. Construction and reset: what construction answers, the whole next state of RST, its independence of the earlier state,
and that `State.reset` is construction followed by RST (00_scope.md R9; 70_reset_and_hazards.md R170 to R174, R176). -/

namespace Sys2Proof.Machine

/-- The derivation with a clear latch, in the closed form of R171. -/
theorem nrfdOf_false (p : Byte) : nrfdOf false p = (p.getLsbD 0 || !p.getLsbD 2) := by
  simp [nrfdOf, rfdo, bit]

theorem ndacOf_false (p : Byte) : ndacOf false p = p.getLsbD 1 := by
  simp [ndacOf, daco, bit]

/-- Settles O27: the next state of `adapterReset_eq` in the closed forms of R171, the status field by unit. -/
theorem resetOperationResult : Obligations.ResetOperationResult := by
  intro s
  rw [exec_rst, State.adapterReset_eq]
  simp only [State.coreReset_regs, nrfdOf_false, ndacOf_false]
  cases hu : s.cfg.unit <;> simp [State.coreReset, State.busValue, hu, bothIndicatorsActive]

theorem State.adapterReset_events (s : State) :
    s.adapterReset.events = s.events ++
      [.setDAV false, .setEOI false, .setNRFD (nrfdOf false s.regs.ORA), .setNDAC (ndacOf false s.regs.ORA),
        .status s.cfg.unit bothIndicatorsActive] := by
  rw [State.adapterReset_eq]

/-- Where the fields that RST does not write agree, a write of the adapter's own status field leaves the same fields. -/
theorem setSlot_congr {st st' : DriveStatus} {u : UnitNo} (h0 : u = .u0 → st.slot1 = st'.slot1)
    (h1 : u = .u1 → st.slot0 = st'.slot0 ∧ st.slot1.isSome = st'.slot1.isSome) (v : StatusCode) :
    setSlot st u v = setSlot st' u v := by
  cases u with
  | u0 => simp [h0 rfl]
  | u1 =>
    obtain ⟨hslot0, hsome⟩ := h1 rfl
    cases hs : st.slot1 <;> cases hs' : st'.slot1 <;> simp_all

/-- What RST leaves depends on the configuration, the ATN line, the others' contributions, the IC state and the other slot's
status alone (R172). -/
theorem State.reset_arch_congr {s u : State} (hcfg : s.cfg = u.cfg) (hatn : s.lines.atn = u.lines.atn)
    (hothers : s.others = u.others) (hic : s.ic = u.ic)
    (hstatus : setSlot s.status s.cfg.unit bothIndicatorsActive = setSlot u.status u.cfg.unit bothIndicatorsActive) :
    s.coreReset.adapterReset.arch = u.coreReset.adapterReset.arch := by
  rw [hcfg] at hstatus
  simp only [State.adapterReset_eq, State.coreReset, State.arch, State.busValue, hstatus, hcfg, hatn, hothers, hic]

/-- A second RST finds all that it does not write as the first one found it (R172). -/
theorem State.reset_reset_arch (s : State) :
    s.coreReset.adapterReset.coreReset.adapterReset.arch = s.coreReset.adapterReset.arch :=
  State.reset_arch_congr (by simp) (by simp [State.adapterReset_lines]) (by simp) (by simp) (by simp [setSlot_setSlot])

/-- With every bit an input a read returns the synthesized byte (43_port_read.md R132). -/
theorem merge_inputs (synth latch : Byte) : merge synth latch 0 = synth := by
  apply BitVec.eq_of_getLsbD_eq
  intro k hk
  exact merge_getLsbD_of_input synth latch hk (by simp)

/-- With DAV and EOI released a port-A read shows ATN alone (95_test_vectors.md W6). -/
theorem synthPortA_of_released {lines : LineValues} (hdav : lines.dav = false) (heoi : lines.eoi = false) :
    synthPortA lines = if lines.atn then 0xFF else 0x7F := by
  rw [synthPortA, hdav, heoi]
  cases lines.atn <;> rfl

/-- Settles O28: `reset_arch_congr` and `reset_reset_arch`, and the synthesized byte of the lines that RST forms. -/
theorem resetIgnoresTheEarlierState : Obligations.ResetIgnoresTheEarlierState := by
  intro s u hcfg hatn hothers hic h0 h1
  refine ⟨_, _, _, _, _, exec_rst s, exec_rst u,
    State.reset_arch_congr hcfg hatn hothers hic (hcfg ▸ setSlot_congr h0 h1 bothIndicatorsActive), exec_rst _,
    s.reset_reset_arch, by simp, s.coreReset.adapterReset_events, by simp, exec_rda _,
    fun hinputs => ⟨_, rfl, fun k hk => ?_, fun hsolo => ?_⟩⟩
  · rw [State.portAByte, State.adapterReset_regs, State.coreReset_regs, hinputs, merge_inputs, synthPortA_getLsbD _ hk,
      State.adapterReset_lines]
    rfl
  · rw [State.portAByte, State.adapterReset_regs, State.coreReset_regs, hinputs, merge_inputs, State.adapterReset_lines,
      synthPortA_of_released (State.busValue_solo hsolo .dav false) (State.busValue_solo hsolo .eoi false)]
    rfl

/-- Settles O32: RST clears the latch, so that ATN 1 finds a rise; neither writes the ATN line. -/
theorem resetWhileAtnSignalsRise : Obligations.ResetWhileAtnSignalsRise := by
  intro s hlegacy hatn
  have hlegacy' : s.coreReset.adapterReset.cfg.legacy = true := by simpa using hlegacy
  refine ⟨_, _, exec_rst s, exec_atn_of_legacy hlegacy' true, by simp, ?_, ?_, ?_, ?_⟩
  · simpa [State.adapterReset_lines] using hatn
  · simpa [State.atnTransition_lines, State.adapterReset_lines] using hatn
  · simp [State.adapterReset_events, edgeKindOf]
  · rw [State.edgesOf_atnTransition_events, State.adapterReset_atnActive]
    rfl

theorem construct_of_wf {raw : RawConfig} (h : raw.wf = true) (init : InitValues) :
    construct raw init = .next (constructed raw init) :=
  if_pos h

theorem construct_of_not_wf {raw : RawConfig} (h : raw.wf = false) (init : InitValues) :
    construct raw init = .refused .illFormedConfig :=
  if_neg (by simp [h])

/-- What construction answers is the constructed state. -/
theorem eq_constructed_of_construct {raw : RawConfig} {init : InitValues} {s : State} (h : construct raw init = .next s) :
    s = constructed raw init := by
  cases hwf : raw.wf with
  | true => exact (Host.Outcome.next.inj ((construct_of_wf hwf init).symm.trans h)).symm
  | false => cases (construct_of_not_wf hwf init).symm.trans h

theorem rawConfig_wf_iff (raw : RawConfig) :
    raw.wf = true ↔ (raw.unit = 0 ∨ raw.unit = 1) ∧ (raw.unit = 0 → raw.dual = true → raw.slot1 = true) := by
  rw [RawConfig.wf, RawConfig.unitOk, RawConfig.slotOk]
  cases raw.dual <;> cases raw.slot1 <;> simp

/-- A well-formed configuration gives a well-formed record (00_scope.md R9). -/
theorem recordOf_wf {raw : RawConfig} (h : raw.wf = true) : (recordOf raw).wf = true := by
  obtain ⟨hunit, hslot⟩ := (rawConfig_wf_iff _).mp h
  obtain hu | hu := hunit
  · cases hdual : raw.dual with
    | true => simp [AdapterConfig.wf, recordOf, hslot hu hdual]
    | false => simp [AdapterConfig.wf, recordOf, hdual]
  · simp [AdapterConfig.wf, recordOf, hu]

/-- Settles O56: the refused configurations are those that `rawConfig_wf_iff` leaves out. -/
theorem constructionRefusesIllFormedConfigurations : Obligations.ConstructionRefusesIllFormedConfigurations := by
  intro raw init
  refine ⟨fun hill => construct_of_not_wf ?_ init, fun hunit hslot => ?_⟩
  · rw [← Bool.not_eq_true, rawConfig_wf_iff]
    rintro ⟨hunit, hslot⟩
    obtain ⟨hne0, hne1⟩ | ⟨hu, hdual, hno⟩ := hill
    · exact hunit.elim hne0 hne1
    · simp [hslot hu hdual] at hno
  · have hwf := (rawConfig_wf_iff _).mpr ⟨hunit, hslot⟩
    refine ⟨_, construct_of_wf hwf init, recordOf_wf hwf, ?_, rfl, rfl, rfl, rfl, rfl, rfl⟩
    obtain hu | hu := hunit <;> simp [constructed, recordOf, hu, UnitNo.toNat]

/-- Construction forms the four lines from all contributions as they stand (10_state.md R28). -/
theorem constructed_linesFormed (raw : RawConfig) (init : InitValues) : (constructed raw init).linesFormed :=
  ⟨rfl, rfl, rfl, rfl⟩

/-- The configuration that `State.reset` stands for is well formed, by the choice of `Config.slot1` (log 21). -/
theorem configRaw_wf : Config.raw.wf = true := by
  rw [rawConfig_wf_iff]
  cases hu : Config.unit
  · refine ⟨.inl (congrArg UnitNo.toNat hu), fun _ (hdual : Config.dual = true) => ?_⟩
    simp [Config.raw, Config.slot1, hu, hdual]
  · exact ⟨.inr (congrArg UnitNo.toNat hu), fun h0 => by simp [Config.raw, hu, UnitNo.toNat] at h0⟩

theorem recordOf_configRaw : recordOf Config.raw = Config.record := by
  cases hu : Config.unit <;> simp [recordOf, Config.raw, Config.record, hu, UnitNo.toNat]

/-- Construction and RST with the model's own parameters leave `State.reset`, traces apart (R174). -/
theorem constructed_reset_arch :
    (constructed Config.raw Config.initValues).coreReset.adapterReset.arch = State.reset.arch := by
  simp only [State.adapterReset_eq, State.coreReset, State.arch, State.busValue, constructed, recordOf_configRaw]
  rfl

/-- Settles O31: the field lemmas of the reset on the constructed state, and `constructed_reset_arch`. -/
theorem resetStateIsConstructionThenRst : Obligations.ResetStateIsConstructionThenRst := by
  refine ⟨fun raw init hwf => ?_, _, _, construct_of_wf configRaw_wf _, exec_rst _, constructed_reset_arch⟩
  have hrst := exec_rst (constructed raw init)
  obtain ⟨-, hatn, -, -, -⟩ := exec_keeps hrst
  have houts := (constructed raw init).coreReset.adapterReset_outs
  refine ⟨_, _, construct_of_wf hwf init, hrst, State.adapterReset_atnActive _, congrArg Outputs.dav houts,
    congrArg Outputs.eoi houts, (congrArg Outputs.nrfd houts).trans (nrfdOf_false _),
    (congrArg Outputs.ndac houts).trans (ndacOf_false _), State.adapterReset_regs _,
    exec_linesFormed (constructed_linesFormed raw init) hrst, hatn,
    State.adapterReset_ic _, fun hu => ?_, fun hu => ?_⟩
  · simp [constructed, recordOf, initialStatus, hu, bothIndicatorsActive]
  · cases hslot : raw.slot1 <;> simp [constructed, recordOf, initialStatus, hu, hslot, bothIndicatorsActive]

/-- Settles O54: the derived values stand in `State.reset` itself, `Config.slot1` makes its record well formed. -/
theorem resetMeetsTheInvariant : Obligations.ResetMeetsTheInvariant where
  config := (congrArg AdapterConfig.wf recordOf_configRaw).symm.trans (recordOf_wf configRaw_wf)
  latch := fun _ => rfl
  handshake := ⟨rfl, rfl⟩
  solo := fun hsolo => by cases hsolo
  ordered := canonicalContributions_ordered _ _
  foreign := canonicalContributions_foreign _ _
  slot := (setSlot_slot1_isSome _ _ _).trans (initialStatus_slot1_isSome _ _ _)

/-- Settles O30: the closed forms of R171; the status field of the adapter's slot, where it exists, was written with 3. -/
theorem resetStateValues : Obligations.ResetStateValues := by
  refine ⟨rfl, rfl, rfl, nrfdOf_false _, ndacOf_false _, rfl, fun hslot => ?_⟩
  refine (getSlot_setSlot_self _ _ _).trans ?_
  obtain hu | hslot1 := hslot
  · replace hu : Config.unit = .u0 := hu
    rw [hu]
    rfl
  · replace hslot1 : Config.slot1 = true := hslot1
    rw [hslot1]
    cases Config.unit <;> rfl

end Sys2Proof.Machine

/-! PROOFS. The legacy ATN transition, the events that each operation adds, and the interrupt operations (41_atn_edge.md R101 to
R104; 45_interrupt_routing.md R140 to R142; 60_exceptions.md R152 to R154). -/

namespace Sys2Proof.Machine

/-- Settles O34: the next state of `atnTransition_eq`, the edge told by the old latch and the argument. -/
theorem legacyAtnTransition : Obligations.LegacyAtnTransition := by
  intro b s hlegacy
  rw [exec_atn_of_legacy hlegacy, State.atnTransition_eq]
  cases hlatch : s.atnActive <;> cases b <;> simp [edgeOf, nrfdOf, rfdo, ndacOf, daco, bit, State.busValue]

/-- Settles O37: one run of five transitions; the edges are the detector's at each, the first compared with the latch found. -/
theorem sourceSequenceOfAtnStates : Obligations.SourceSequenceOfAtnStates := by
  intro s
  cases hlegacy : s.cfg.legacy with
  | false =>
    have hatn := exec_atn_of_nonLegacy hlegacy
    exact ⟨s, by simp [execAll, hatn], by simp⟩
  | true =>
    refine ⟨((((s.atnTransition true).atnTransition true).atnTransition false).atnTransition false).atnTransition true,
      ?_, fun _ hset => ?_, fun _ hclear => ?_, by simp⟩
    · simp [execAll, exec_atn_of_legacy, hlegacy]
    · simp [State.edgesOf_atnTransition_events, hset, edgeOf]
    · simp [State.edgesOf_atnTransition_events, hclear, edgeOf]

/-- Settles O38: the derivation with the latch's own value gives the contributions that stand, and these form their lines. -/
theorem repeatedAtnMovesNoLine : Obligations.RepeatedAtnMovesNoLine := by
  intro s hlegacy hderived
  obtain ⟨hnrfd, hndac⟩ := hderived
  refine ⟨_, exec_atn_of_legacy hlegacy _, ?_, s.atnTransition_atnActive _, ?_, fun hlnrfd hlndac => ?_⟩
  · rw [State.atnTransition_outs, ← hnrfd, ← hndac]
  · rw [State.edgesOf_atnTransition_events, edgeOf_toList, if_pos rfl, List.append_nil]
  · rw [State.atnTransition_lines, ← hnrfd, ← hndac, ← hlnrfd, ← hlndac]

/-- Settles O40: a read looks at the line values by bits, of which the ATN line is bit 7 of port A alone. -/
theorem atnLineAloneReachesOnlyReads : Obligations.AtnLineAloneReachesOnlyReads := by
  intro b s rest hin
  refine ⟨step_of_env hin, s.portAByte, _, s.portBByte, exec_rda s, exec_rda _, ?_, ?_, ?_, exec_rdb s, exec_rdb _⟩
  · intro hinput
    rw [State.portAByte, merge_getLsbD_of_input _ _ (by decide) hinput, synthPortA_getLsbD _ (by decide)]
    rfl
  · intro houtput
    rw [State.portAByte, State.portAByte, merge_getLsbD_of_output _ _ (by decide) houtput,
      merge_getLsbD_of_output _ _ (by decide) houtput]
  · intro k hk
    have hne : k ≠ 7 := by omega
    have hk8 : k < 8 := by omega
    simp only [State.portAByte, merge_getLsbD _ _ _ hk8, synthPortA_getLsbD _ hk8, hne, if_false]

/-- Settles O41: the interrupt set is one call with the side input or one without. -/
theorem interruptSetForwards : Obligations.InterruptSetForwards := fun _ => ⟨rfl, rfl⟩

/-- Settles O42: the interrupt restore is one call that keeps the clock. -/
theorem interruptRestoreForwards : Obligations.InterruptRestoreForwards := fun _ _ => rfl

/-- A step on the word of IRQ 1 asserts with the clock that was delivered with the word. -/
theorem step_irq_true {s : State} {clk : Nat} {rest : List Input} (h : s.inputs = .op 0x9100 clk :: rest) :
    step s = .next ((s.deliver rest clk).icAssert clk) :=
  (step_of_op h).trans (runWord_of_ok (decode_encode (.irq true)) _)

/-- Settles O43, from `step_irq_true`. -/
theorem interruptClockIsTheDeliveredOne : Obligations.InterruptClockIsTheDeliveredOne :=
  fun _ _ _ hin => ⟨_, step_irq_true hin, rfl, rfl, rfl⟩

/-- Settles O45: the calls of the Interrupt Controller change the IC state and the trace alone. -/
theorem interruptFrame : Obligations.InterruptFrame := by
  rintro b s t i (rfl | rfl) h
  · cases b <;> cases h <;> simp
  · cases h
    simp

/-- A port-B write adds events of status fields alone, by configuration (42_port_write.md R112, R114). -/
theorem State.portBWrite_events (d : Byte) (s : State) :
    (s.portBWrite d).events = s.events ++
      if servesTwo s.cfg then [.status .u0 (primaryStatus d), .status .u1 (secondaryStatus d)]
      else [.status s.cfg.unit (primaryStatus d)] := by
  cases htwo : servesTwo s.cfg with
  | true => simp [State.portBWrite_two, htwo]
  | false => simp [State.portBWrite_one, htwo]

theorem State.atnTransition_events (b : Bool) (s : State) :
    (s.atnTransition b).events = s.events ++ ((edgeOf s.atnActive b).toList.map Event.signalEdge ++
      [.siblingRederive s.cfg.sibling, .setNRFD (nrfdOf b s.regs.ORA), .setNDAC (ndacOf b s.regs.ORA)]) := by
  rw [State.atnTransition_eq]

/-- Signalling an edge calls no Interrupt Controller (60_exceptions.md R154). -/
theorem icSourcesOf_signalled (e : Option EdgeKind) : icSourcesOf (e.toList.map Event.signalEdge) = [] := by
  cases e <;> rfl

/-- Events without an edge or a sibling request, whose Interrupt Controller calls all name one source. -/
def quietEvents (source : SourceId) (new : List Event) : Prop :=
  edgesOf new = [] ∧ (∀ a, .siblingRederive a ∉ new) ∧ ∀ x ∈ icSourcesOf new, x = source

/-- Events of a legacy ATN: the edge that the detector finds, requests to one sibling, no Interrupt Controller call. -/
def transitionEvents (latch b : Bool) (sibling : BusAgent) (new : List Event) : Prop :=
  edgesOf new = (edgeOf latch b).toList ∧ (∀ a, .siblingRederive a ∈ new → a = sibling) ∧ icSourcesOf new = []

/-- What an operation can add to the trace: it registers no source, and the events are quiet but for a legacy ATN. -/
theorem exec_events_cases {i : Instr} {s t : State} (h : exec i s = .next t) :
    ∃ new, t.events = s.events ++ new ∧ (∀ n, .registerSource n ∉ new) ∧
      (quietEvents s.cfg.source new ∨
        s.cfg.legacy = true ∧ ∃ b, i = .atn b ∧ transitionEvents s.atnActive b s.cfg.sibling new) := by
  obtain ⟨d, -, rfl⟩ | ⟨d, -, rfl⟩ | ⟨-, rfl⟩ | ⟨-, rfl⟩ | ⟨-, rfl⟩ | ⟨b, hi, hl, rfl⟩ | ⟨b, -, -, rfl⟩ |
    ⟨-, rfl⟩ | ⟨-, rfl⟩ | ⟨b, -, rfl⟩ := exec_cases h
  case inl =>
    refine ⟨_, State.portAWrite_events d _, by simp, .inl ?_⟩
    simp [quietEvents, edgeKindOf, icSourceOf]
  case inr.inl =>
    refine ⟨_, State.portBWrite_events d _, ?_, .inl ?_⟩
    · split <;> simp
    · split <;> simp [quietEvents, edgeKindOf, icSourceOf]
  case inr.inr.inr.inr.inl =>
    refine ⟨_, State.adapterReset_events _, by simp, .inl ?_⟩
    simp [quietEvents, edgeKindOf, icSourceOf]
  case inr.inr.inr.inr.inr.inl =>
    refine ⟨_, State.atnTransition_events b s, by simp, .inr ⟨hl, b, hi, ?_⟩⟩
    simp [transitionEvents, edgesOf_signalled, icSourcesOf_signalled, edgeKindOf, icSourceOf]
  -- The reads and the non-legacy ATN add nothing; the three interrupt calls add one event each.
  case inr.inr.inl | inr.inr.inr.inl | inr.inr.inr.inr.inr.inr.inl =>
    exact ⟨[], by simp, by simp, .inl (by simp [quietEvents])⟩
  all_goals exact ⟨[_], rfl, by simp, .inl (by simp [quietEvents, edgeKindOf, icSourceOf])⟩

/-- Settles O44: construction's one event, and `exec_events_cases`. -/
theorem sourceIdIsRegisteredOnce : Obligations.SourceIdIsRegisteredOnce := by
  refine ⟨fun raw init s h => ?_, fun i s t h => ?_⟩
  · rw [eq_constructed_of_construct h]
    exact ⟨rfl, rfl⟩
  · obtain ⟨hcfg, -⟩ := exec_keeps h
    obtain ⟨new, hnew, hreg, ⟨-, -, hsource⟩ | ⟨-, b, -, -, -, hnone⟩⟩ := exec_events_cases h
    · exact ⟨by rw [hcfg], new, hnew, hreg, hsource⟩
    · exact ⟨by rw [hcfg], new, hnew, hreg, by simp [hnone]⟩

/-- Settles O51: quiet events have no edge, a transition's have at most the detector's one and no Interrupt Controller call. -/
theorem atMostOneEdgeAndNoInterruptCallBesideIt : Obligations.AtMostOneEdgeAndNoInterruptCallBesideIt := by
  intro i s t h
  obtain ⟨new, hnew, -, ⟨hedges, -, -⟩ | ⟨-, b, -, hedges, -, hnone⟩⟩ := exec_events_cases h
  · exact ⟨new, hnew, by simp [hedges], .inl hedges⟩
  · refine ⟨new, hnew, ?_, .inr hnone⟩
    rw [hedges, edgeOf_toList_length]
    split <;> decide

/-- Settles O52: only a legacy ATN's events are not quiet, and its detector finds no edge where the argument is the latch. -/
theorem edgesAndSiblingRequestsOnlyFromLegacyAtn : Obligations.EdgesAndSiblingRequestsOnlyFromLegacyAtn := by
  intro i s t h
  obtain ⟨new, hnew, -, ⟨hedges, hnoSibling, -⟩ | ⟨hl, b, hi, hedges, hsibling, -⟩⟩ := exec_events_cases h
  · exact ⟨new, hnew, fun hne => absurd hedges hne, fun a ha => absurd ha (hnoSibling a)⟩
  · refine ⟨new, hnew, fun hne => ⟨hl, b, hi, fun hb => hne ?_⟩, fun a ha => ⟨hsibling a ha, hl, b, hi⟩⟩
    rw [hedges, edgeOf_toList, if_pos hb]

end Sys2Proof.Machine

/-! PROOFS. The Chip Core's answer to an edge, for every relation `P_CORE_EDGE` (41_atn_edge.md R103; 60_exceptions.md R152). -/

namespace Sys2Proof.Machine

theorem addedEdges_of_events {s u : State} {new : List Event} (h : u.events = s.events ++ new) :
    addedEdges s u = edgesOf new := by
  rw [addedEdges, h, List.drop_left]

/-- One edge is answered by one pair of the relation. -/
theorem coreAnswers_singleton {Core : Type} (P : CoreEdge Core) (k k' : Core) (e : EdgeKind) (calls : List IrqCall) :
    coreAnswers P k k' [e] calls ↔ P.rel k e k' calls := by
  simp [coreAnswers]

/-- Without an edge a step of the adapter with its Chip Core is the adapter's step (log 12). -/
theorem coreStep_iff_of_no_edge {Core : Type} (P : CoreEdge Core) (k k' : Core) {s u : State} (t : State)
    (hstep : step s = .next u) (hedges : addedEdges s u = []) : coreStep P k s k' t ↔ k' = k ∧ t = u := by
  constructor
  · rintro ⟨v, calls, inputs, hv, hanswer, hinputs, rfl⟩
    obtain rfl := Host.Outcome.next.inj (hv.symm.trans hstep)
    rw [hedges] at hanswer
    obtain ⟨hk, rfl⟩ := hanswer
    obtain rfl := interleaves_nil_left.mp hinputs
    exact ⟨hk, rfl⟩
  · rintro ⟨rfl, rfl⟩
    exact ⟨t, [], t.inputs, hstep, hedges ▸ ⟨rfl, rfl⟩, interleaves_nil_left.mpr rfl, rfl⟩

/-- With one edge and no other input waiting the Chip Core's calls are the inputs that then wait. -/
theorem coreStep_iff_of_one_edge {Core : Type} (P : CoreEdge Core) (k k' : Core) {s u : State} (t : State) {e : EdgeKind}
    (hstep : step s = .next u) (hedges : addedEdges s u = [e]) (hnone : u.inputs = []) :
    coreStep P k s k' t ↔ ∃ calls, P.rel k e k' calls ∧ t = { u with inputs := calls.map irqInput } := by
  constructor
  · rintro ⟨v, calls, inputs, hv, hanswer, hinputs, rfl⟩
    obtain rfl := Host.Outcome.next.inj (hv.symm.trans hstep)
    rw [hedges, coreAnswers_singleton] at hanswer
    rw [hnone, interleaves_nil_right] at hinputs
    exact ⟨calls, hanswer, hinputs ▸ rfl⟩
  · rintro ⟨calls, hrel, rfl⟩
    refine ⟨u, calls, _, hstep, ?_, ?_, rfl⟩
    · rwa [hedges, coreAnswers_singleton]
    · rw [hnone, interleaves_nil_right]

/-- A step on the word of ATN 1 runs the legacy transition. -/
theorem step_atn_true {s : State} {clk : Nat} {rest : List Input} (hlegacy : s.cfg.legacy = true)
    (h : s.inputs = .op 0x8100 clk :: rest) : step s = .next ((s.deliver rest clk).atnTransition true) :=
  ((step_of_op h).trans (runWord_of_ok (decode_encode (.atn true)) _)).trans
    (exec_atn_of_legacy (s := s.deliver rest clk) hlegacy true)

/-- The Chip Core's assert is the word of IRQ 1 with the clock of the call (30_encoding.md R73). -/
theorem irqInput_assert (c : Nat) : irqInput ⟨true, c⟩ = .op 0x9100 c := by
  have hword : encode (.irq true) = 0x9100 := by decide
  rw [irqInput, inputOf, hword]

/-- Settles O53: the ATN step signals one RISE, whose answer is one assert; the next step is that assert's. -/
theorem interruptFollowsEdge : Obligations.InterruptFollowsEdge := by
  refine ⟨fun Core P k s clk hrise hlegacy hlatch hin => ?_, fun Core P k k' s t u => coreStep_iff_of_no_edge P k k' t⟩
  have hedges : addedEdges s ((s.deliver [] clk).atnTransition true) = [.rise] := by
    rw [addedEdges_of_events (s := s) (State.atnTransition_events true (s.deliver [] clk))]
    simp [hlatch, edgeOf, edgeKindOf]
  have hcore := fun k' t => coreStep_iff_of_one_edge P k k' t (step_atn_true hlegacy hin) hedges (by simp)
  obtain ⟨⟨k', calls, hrel⟩, hassert⟩ := hrise k
  refine ⟨⟨k', _, (hcore k' _).mpr ⟨calls, hrel, rfl⟩⟩, fun m t ht => ?_⟩
  obtain ⟨calls, hrel, rfl⟩ := (hcore m t).mp ht
  obtain ⟨c, rfl⟩ := hassert m calls hrel
  have hwaiting : [⟨true, c⟩].map irqInput = [.op 0x9100 c] := congrArg (fun x => [x]) (irqInput_assert c)
  exact ⟨c, _, hwaiting, State.atnTransition_ic _ _, step_irq_true hwaiting, rfl,
    State.atnTransition_atnActive true (s.deliver [] clk)⟩

end Sys2Proof.Machine

/-! PROOFS. Two adapters of one drive context: what a step of either does to the shared bus and status fields and leaves to the
other (20_memory.md R58, R60; 60_exceptions.md R159; 30_encoding.md R77). -/

namespace Sys2Proof.Machine

/-- A word that runs to a next state decodes, and its operation answers that state. -/
theorem runWord_next {w : OpWord} {s t : State} (h : runWord w s = .next t) :
    ∃ i, decode w = .ok i ∧ exec i s = .next t := by
  match hd : decode w with
  | .ok i => exact ⟨i, rfl, (runWord_of_ok hd s).symm.trans h⟩
  | .error e => cases (runWord_of_error hd s).symm.trans h

/-- Inputs that wait are no part of what an adapter sees. -/
@[simp] theorem Context.await_view (c : Context) (rest : List ContextInput) (u : UnitNo) :
    (c.await rest).view u = c.view u := by
  cases u <;> rfl

@[simp] theorem Context.await_part (c : Context) (rest : List ContextInput) (u : UnitNo) :
    (c.await rest).part u = c.part u := by
  cases u <;> rfl

@[simp] theorem Context.await_lines (c : Context) (rest : List ContextInput) : (c.await rest).lines = c.lines := rfl

@[simp] theorem Context.await_others (c : Context) (rest : List ContextInput) : (c.await rest).others = c.others := rfl

@[simp] theorem Context.await_inputs (c : Context) (rest : List ContextInput) : (c.await rest).inputs = rest := rfl

@[simp] theorem AdapterPart.after_settings (p : AdapterPart) (t : State) : (p.after t).settings = p.settings := rfl

@[simp] theorem AdapterPart.after_atnActive (p : AdapterPart) (t : State) : (p.after t).atnActive = t.atnActive := rfl

@[simp] theorem AdapterPart.after_outs (p : AdapterPart) (t : State) : (p.after t).outs = t.outs := rfl

@[simp] theorem AdapterPart.after_returned (p : AdapterPart) (t : State) : (p.after t).returned = t.returned := rfl

@[simp] theorem Context.store_view_cfg (c : Context) (u : UnitNo) (t : State) :
    ((c.store u t).view u).cfg = (c.view u).cfg := by
  cases u <;> rfl

theorem Context.step_of_cons {c : Context} {i : ContextInput} {rest : List ContextInput} (h : c.inputs = i :: rest) :
    c.step = (c.await rest).take i := by
  rw [Context.step, h]

/-- A step on an operation word runs it in what its adapter sees. -/
theorem Context.step_of_op {c : Context} {u : UnitNo} {w : OpWord} {k : Nat} {rest : List ContextInput}
    (h : c.inputs = .op u w k :: rest) :
    c.step = (c.await rest).answer u (runWord w ((c.view u).deliver [] k)) := by
  rw [Context.step_of_cons h, Context.take, Context.await_view]

/-- An operation that completes in what its adapter sees completes in the context. -/
theorem Context.run_of_exec {c : Context} {u : UnitNo} {i : Instr} {k : Nat} {t : State}
    (h : exec i ((c.view u).deliver [] k) = .next t) : c.run u i k = .next (c.store u t) := by
  rw [Context.run, h, Context.answer]

/-- Settles O58: what is stored is the adapter's own part and the shared lines, of which no operation writes ATN. -/
theorem adaptersShareOnlyBusAndStatus : Obligations.AdaptersShareOnlyBusAndStatus := by
  intro c x u w k rest hin h
  rw [Context.step_of_op hin] at h
  obtain ⟨t, ht, rfl⟩ := Context.answer_next h
  obtain ⟨i, -, hx⟩ := runWord_next ht
  obtain ⟨-, hatn, -⟩ := exec_keeps hx
  exact ⟨by simp, by simp, by simp, by simpa using hatn, by simp⟩

/-- A run that forms its adapter's lines and leaves what is contributed beside it forms the context's lines. -/
theorem Context.store_linesFormed {c : Context} {u : UnitNo} {t : State} (hcfg : t.cfg = (c.view u).cfg)
    (hothers : t.others = (c.view u).others) (ht : t.linesFormed) : (c.store u t).linesFormed := by
  rw [← Context.view_linesFormed _ u, State.linesFormed_iff_of_bus_eq (s := t) (by simp [hcfg]) (by simp [hothers])]
  simpa [State.linesFormed] using ht

/-- Recording an agent's contribution and another adapter's outputs can be done in either order. -/
theorem recordOutputs_recordContribution {a b : BusAgent} (h : a ≠ b) (o : Outputs) (l : BusLine) (v : Bool)
    (cs : List Contribution) :
    recordOutputs a o (recordContribution b l v cs) = recordContribution b l v (recordOutputs a o cs) := by
  simp only [recordOutputs, recordContribution_comm h]

/-- What a third participant contributes to one line does not enter the value of another. -/
theorem Context.formedValue_recordContribution_of_ne {l m : BusLine} (h : l ≠ m) (c : Context) (id : AdapterId) (v : Bool) :
    ({ c with others := recordContribution (.other id) l v c.others } : Context).formedValue m = c.formedValue m := by
  simp only [Context.formedValue, Context.contributions, ne_eq, reduceCtorEq, not_false_eq_true,
    recordOutputs_recordContribution, contributionsTo_recordContribution_of_ne h]

@[simp] theorem Context.setLine_lines (l : BusLine) (v : Bool) (c : Context) :
    (c.setLine l v).lines = setLineValue c.lines l v := rfl

@[simp] theorem Context.setLine_formedValue (l m : BusLine) (v : Bool) (c : Context) :
    (c.setLine l v).formedValue m = c.formedValue m := rfl

theorem Context.contribute_linesFormed {c : Context} (hc : c.linesFormed) (id : AdapterId) (l : BusLine) (v : Bool) :
    (c.contribute id l v).linesFormed := by
  have hother := fun m (h : l ≠ m) => c.formedValue_recordContribution_of_ne h id v
  obtain ⟨hdav, heoi, hnrfd, hndac⟩ := hc
  -- The line of the contribution is formed by `formedValue`; the others are as in `c` by `hother`.
  cases l <;> simp [Context.linesFormed, Context.contribute, hother, hdav, heoi, hnrfd, hndac]

/-- Every input of a context but a direct setting of a line keeps the lines formed. -/
theorem Context.take_linesFormed {c x : Context} {i : ContextInput} (hc : c.linesFormed) (hi : ∀ l b, i ≠ .forceLine l b)
    (h : c.take i = .next x) : x.linesFormed := by
  cases i with
  | op u w k =>
    obtain ⟨t, ht, rfl⟩ := Context.answer_next h
    obtain ⟨i, -, hx⟩ := runWord_next ht
    obtain ⟨hcfg, -, hothers, -⟩ := exec_keeps hx
    have hview : ((c.view u).deliver [] k).linesFormed := (c.view_linesFormed u).mpr hc
    exact Context.store_linesFormed hcfg hothers (exec_linesFormed hview hx)
  | setDDR u port v =>
    cases h
    have hview := (c.view_linesFormed u).mpr hc
    exact Context.store_linesFormed (by simp) (by simp) (applyEnv_linesFormed (e := .setDDR port v) hview (by simp))
  | atnLine b => cases h; exact hc
  | forceLine l b => exact absurd rfl (hi l b)
  | contribute id l b => cases h; exact Context.contribute_linesFormed hc id l b
  | teardown u => cases h; exact hc

/-- Settles O9: construction and `Context.form` form the lines; every step but a `!BUS` step keeps them formed. -/
theorem linesStayFormed : Obligations.LinesStayFormed := by
  refine ⟨fun raw init s h => ?_, fun s t => step_linesFormed, fun c => ⟨rfl, rfl, rfl, rfl⟩, fun c x hc hforce h => ?_⟩
  · rw [eq_constructed_of_construct h]
    exact constructed_linesFormed raw init
  · match hin : c.inputs with
    | [] =>
      rw [Context.step, hin] at h
      cases h
      exact hc
    | i :: rest =>
      rw [Context.step_of_cons hin] at h
      exact Context.take_linesFormed (c := c.await rest) hc (fun l b hi => hforce l b rest (hi ▸ hin)) h

end Sys2Proof.Machine

/-! PROOFS. Runs of both adapters of a context: the last writer of `status[1]`, a bus write that the other adapter reads, and a
change of the ATN line that reaches both (20_memory.md R58, R60; 30_encoding.md R77). -/

namespace Sys2Proof.Machine

/-- WRB on the unit-1 adapter writes `status[1]` alone, whatever its configuration (42_port_write.md R112). -/
theorem Context.run_wrb_u1 (c : Context) (e : Byte) (k : Nat) :
    ∃ x, c.run .u1 (.wrb e) k = .next x ∧ x.a0 = c.a0 ∧
      x.status = { c.status with slot1 := c.status.slot1.map fun _ => e.extractLsb' 4 2 } := by
  refine ⟨_, Context.run_of_exec (exec_portBWrite (.inl rfl) _), rfl, ?_⟩
  rw [Context.store_status, State.portBWrite_one _ _ (by simp [servesTwo]), primaryStatus_eq_extractLsb']
  rfl

/-- WRB on the unit-0 adapter of a dual unit writes both fields (R114). -/
theorem Context.run_wrb_u0_of_dual {c : Context} (hdual : c.a0.settings.dual = true) (d : Byte) (k : Nat) :
    ∃ x, c.run .u0 (.wrb d) k = .next x ∧
      x.status =
        { slot0 := d.extractLsb' 4 2
          slot1 := c.status.slot1.map fun _ => BitVec.ofBool (d.getLsbD 5) ++ BitVec.ofBool (d.getLsbD 3) } := by
  refine ⟨_, Context.run_of_exec (exec_portBWrite (.inl rfl) _), ?_⟩
  rw [Context.store_status, State.portBWrite_two _ _ ((servesTwo_iff _).mpr ⟨rfl, hdual⟩), primaryStatus_eq_extractLsb',
    secondaryStatus_eq_append]
  rfl

/-- A field that exists holds the code of the last write. -/
theorem map_const_of_isSome {o : Option StatusCode} (h : o.isSome = true) (v : StatusCode) : (o.map fun _ => v) = some v := by
  obtain ⟨w, rfl⟩ := Option.isSome_iff_exists.mp h
  rfl

/-- Settles O57: both writers write `status[1]` where it exists, so that the later write stands. -/
theorem lastWriterOfSecondStatusWins : Obligations.LastWriterOfSecondStatusWins := by
  intro c d e k m hdual hslot1
  constructor
  · obtain ⟨x, hx, hxs⟩ := Context.run_wrb_u0_of_dual hdual d k
    obtain ⟨y, hy, -, hys⟩ := x.run_wrb_u1 e m
    refine ⟨x, y, hx, hy, ?_⟩
    simp [hys, hxs, map_const_of_isSome hslot1]
  · obtain ⟨x, hx, ha0, hxs⟩ := c.run_wrb_u1 e m
    obtain ⟨y, hy, hys⟩ := Context.run_wrb_u0_of_dual (c := x) (by rwa [ha0]) d k
    refine ⟨x, y, hx, hy, ?_⟩
    rw [hys, hxs, map_const_of_isSome (by simpa using hslot1)]

/-- RDA on an adapter of a context returns the byte of what the adapter sees. -/
theorem Context.run_rda (c : Context) (u : UnitNo) (k : Nat) :
    ∃ y, c.run u .rda k = .next y ∧ (y.part u).returned = (c.part u).returned ++ [(c.view u).portAByte] :=
  ⟨_, Context.run_of_exec (exec_rda _), congrArg AdapterPart.returned (Context.store_part c u _)⟩

theorem Context.run_rdb (c : Context) (u : UnitNo) (k : Nat) :
    ∃ z, c.run u .rdb k = .next z ∧ (z.part u).returned = (c.part u).returned ++ [(c.view u).portBByte] :=
  ⟨_, Context.run_of_exec (exec_rdb _), congrArg AdapterPart.returned (Context.store_part c u _)⟩

/-- Each bit of a port-A read that is an input, from the lines (43_port_read.md R130, R132). -/
theorem State.portAByte_getLsbD_of_input (s : State) {k : Nat} (hk : k < 8) (h : s.regs.DDRA.getLsbD k = false) :
    s.portAByte.getLsbD k =
      if k = 7 then s.lines.atn else if k = 6 then !s.lines.dav else if k = 5 then !s.lines.eoi else true :=
  (merge_getLsbD_of_input _ _ hk h).trans (synthPortA_getLsbD s.lines hk)

/-- Each bit of a port-B read that is an input, from the lines and the unit (R131, R132). -/
theorem State.portBByte_getLsbD_of_input (s : State) {k : Nat} (hk : k < 8) (h : s.regs.DDRB.getLsbD k = false) :
    s.portBByte.getLsbD k =
      if k = 7 then !s.lines.nrfd else if k = 6 then !s.lines.ndac else if k = 2 then false else if k = 1 then false
      else if k = 0 then decide (s.cfg.unit ≠ .u0) else true :=
  (merge_getLsbD_of_input _ _ hk h).trans (synthPortB_getLsbD s.cfg.unit s.lines hk)

/-- What an adapter's setter forms for a line in a context is the open function of all contributions, its new ones among them. -/
theorem Context.view_busValue_eq_combine (c : Context) (u : UnitNo) {outs : Outputs} {line : BusLine} {v : Bool}
    (h : outputTo outs line = some v) :
    (c.view u).busValue line v =
      Config.busCombine line (contributionsTo line (recordOutputs (.unit u) outs (c.contributionsBeside u))) := by
  rw [contributionsTo_recordOutputs h]
  rfl

theorem unit_ne_otherUnit (u : UnitNo) : BusAgent.unit u ≠ .unit (otherUnit u) := by
  cases u <;> decide

/-- The four contributions that a port-A write of `d` leaves (42_port_write.md R110). -/
def portAOutputs (latch : Bool) (d : Byte) : Outputs where
  nrfd := nrfdOf latch d
  ndac := ndacOf latch d
  eoi := eoiOf d
  dav := davOf d

/-- WRA forms each of the four lines of a context from all contributions, its own new ones among them (20_memory.md R58). -/
theorem Context.run_wra (c : Context) (u : UnitNo) (d : Byte) (k : Nat) :
    ∃ x, c.run u (.wra d) k = .next x ∧ x.part (otherUnit u) = c.part (otherUnit u) ∧
      x.lines =
        let all := recordOutputs (.unit u) (portAOutputs (c.part u).atnActive d) (c.contributionsBeside u)
        { atn := c.lines.atn
          dav := Config.busCombine .dav (contributionsTo .dav all)
          eoi := Config.busCombine .eoi (contributionsTo .eoi all)
          nrfd := Config.busCombine .nrfd (contributionsTo .nrfd all)
          ndac := Config.busCombine .ndac (contributionsTo .ndac all) } := by
  refine ⟨_, Context.run_of_exec (exec_portAWrite (.inl rfl) _), Context.store_part_other _ _ _, ?_⟩
  have hvalue := fun line v => c.view_busValue_eq_combine u (outs := portAOutputs (c.part u).atnActive d) (line := line) (v := v)
  rw [Context.store_lines, State.portAWrite_lines]
  simp only [← hvalue .dav _ rfl, ← hvalue .eoi _ rfl, ← hvalue .nrfd _ rfl, ← hvalue .ndac _ rfl]
  rfl

/-- Settles O59: WRA forms the lines of all contributions, and the other adapter's reads see these line values. -/
theorem busWriteIsVisibleAtOnce : Obligations.BusWriteIsVisibleAtOnce := by
  intro c u d k p q nrfd ndac new all
  obtain ⟨x, hx, hq, hlines⟩ := c.run_wra u d k
  obtain ⟨y, hy, hyr⟩ := x.run_rda (otherUnit u) k
  obtain ⟨z, hz, hzr⟩ := x.run_rdb (otherUnit u) k
  have hregs : (x.view (otherUnit u)).regs = q.regs := congrArg AdapterPart.regs hq
  have hbitA := fun j hj h => (x.view (otherUnit u)).portAByte_getLsbD_of_input (k := j) hj (by rwa [hregs])
  have hbitB := fun j hj h => (x.view (otherUnit u)).portBByte_getLsbD_of_input (k := j) hj (by rwa [hregs])
  have hswap : all = recordOutputs (.unit (otherUnit u)) q.outs (recordOutputs (.unit u) new c.others) :=
    recordOutputs_comm (unit_ne_otherUnit u) _ _ _
  rw [hq] at hyr hzr
  exact ⟨x, y, z, _, _, hx, hlines, fun line b h => recordOutputs_mem h _ _,
    fun line b h => hswap ▸ recordOutputs_mem h _ _, hy, hyr, hbitA 6 (by decide), hbitA 5 (by decide),
    hz, hzr, hbitB 7 (by decide), hbitB 6 (by decide), hbitB 0 (by decide)⟩

/-- ATN loads the latch of a legacy adapter and keeps that of another one. -/
theorem exec_atn_latch (b : Bool) (s : State) :
    ∃ t, exec (.atn b) s = .next t ∧ t.atnActive = if s.cfg.legacy then b else s.atnActive := by
  cases hlegacy : s.cfg.legacy with
  | true => exact ⟨_, exec_atn_of_legacy hlegacy b, by simp⟩
  | false => exact ⟨s, exec_atn_of_nonLegacy hlegacy b, by simp⟩

@[simp] theorem Context.setLine_part (l : BusLine) (v : Bool) (c : Context) (u : UnitNo) :
    (c.setLine l v).part u = c.part u := by
  cases u <;> rfl

theorem Context.steps_succ {c x : Context} (h : c.step = .next x) (n : Nat) : c.steps (n + 1) = x.steps n := by
  rw [Context.steps, h]

/-- The pair of R77 completes in two steps: the line and the adapter's latch follow, and the other adapter is left alone. -/
theorem Context.steps_atnPair {c : Context} {b : Bool} {u : UnitNo} {k : Nat} {rest : List ContextInput}
    (h : c.inputs = atnPair b u k ++ rest) :
    ∃ x : Context, (∀ n, c.steps (n + 2) = x.steps n) ∧ x.inputs = rest ∧ x.lines.atn = b ∧
      (x.part u).atnActive = (if (c.part u).settings.legacy then b else (c.part u).atnActive) ∧
      x.part (otherUnit u) = c.part (otherUnit u) := by
  let d := (c.await (.op u (encode (.atn b)) k :: rest)).setLine .atn b
  have hline : c.step = .next d := Context.step_of_cons h
  obtain ⟨t, hexec, hlatch⟩ := exec_atn_latch b ((d.view u).deliver [] k)
  have hop : d.step = .next ((d.await rest).store u t) := by
    rw [Context.step_of_op (c := d) rfl, runWord_of_ok (decode_encode _), hexec, Context.answer]
  obtain ⟨-, -, -, hatn, hinputs⟩ := adaptersShareOnlyBusAndStatus d _ u _ k rest rfl hop
  refine ⟨_, fun n => (Context.steps_succ hline _).trans (Context.steps_succ hop n), hinputs, hatn, ?_, ?_⟩
  · simpa [d] using hlatch
  · simp [d]

/-- Settles O60: the pair of the first adapter, then that of the other, each of which leaves the other one's part. -/
theorem atnChangeReachesBothAdapters : Obligations.AtnChangeReachesBothAdapters := by
  intro c b first k m rest hin
  rw [atnInputs, List.append_assoc] at hin
  obtain ⟨x, hx, hxin, -, hxlatch, hxother⟩ := Context.steps_atnPair hin
  obtain ⟨y, hy, hyin, hyatn, hylatch, hyother⟩ := Context.steps_atnPair hxin
  refine ⟨y, (hx 2).trans (hy 0), hyin, hyatn, fun u => ?_⟩
  rw [otherUnit_otherUnit] at hyother
  rw [hxother] at hylatch
  obtain rfl | rfl : u = first ∨ u = otherUnit first := by cases u <;> cases first <;> decide
  · rw [hyother, hxlatch]
  · exact hylatch

end Sys2Proof.Machine
